-- ==== Sys2Proof/Word.lean ====
section
/-!
DEFINITION. The words of the part: bytes of its messages, axis numbers, and a table with one entry per axis.
The manual numbers axes 0 to 3 (spec/00_scope.md, Conventions) and does arithmetic on them nowhere; speeds, forces,
temperatures and accelerations are signed integers computed exactly, so they are `Int`; frames and counts are `Nat`.
-/
namespace Sys2Proof

/-- One byte of a message. -/
abbrev Byte := BitVec 8

/-- An axis number: 0 left-front, 1 right-front, 2 left-rear, 3 right-rear. It also names a temperature band 0 to 3. -/
abbrev Axis := Fin 4

/-- Four things of one kind, one per axis (or one per temperature band). -/
structure Four (α : Type) where
  e0 : α
  e1 : α
  e2 : α
  e3 : α
  deriving DecidableEq, Repr

namespace Four
variable {α : Type}

/-- The entry of index `i`. -/
def get (v : Four α) (i : Axis) : α :=
  match i with
  | 0 => v.e0
  | 1 => v.e1
  | 2 => v.e2
  | 3 => v.e3

/-- The table with the entry of index `i` replaced. -/
def set (v : Four α) (i : Axis) (x : α) : Four α :=
  match i with
  | 0 => { v with e0 := x }
  | 1 => { v with e1 := x }
  | 2 => { v with e2 := x }
  | 3 => { v with e3 := x }

/-- The same entry everywhere. -/
def all (x : α) : Four α := ⟨x, x, x, x⟩

/-- Every entry changed by `f`. -/
def map {β : Type} (f : α → β) (v : Four α) : Four β := ⟨f v.e0, f v.e1, f v.e2, f v.e3⟩

end Four

/-- The four axes in ascending order. -/
def axes : List Axis := [0, 1, 2, 3]

end Sys2Proof
end

