-- ==== Sys2Proof/Syntax.lean ====
section
/-!
DEFINITION. The commands of the part: one constructor of `Instr` per row of spec/opcode_table.json, and the types of
their operands. A request row carries its sender and its contents; contents the manual gives a byte layout for
(APPEND, LOAD BLOCK, HELLO, POLL: spec/12, R200) are the payload bytes themselves. Log entries 1, 3, 4, 5 and 8.
-/
namespace Sys2Proof

/-- Who sends a station request (R60, R192): the supervisory computer, or one of the two observers. -/
inductive Sender where
  | supervisor
  | sampler
  | driverAid
  deriving DecidableEq, Repr

/-- The seven holder identities (R59): three external ones and one per axis. -/
inductive Holder where
  | external (who : Sender)
  | axis (n : Axis)
  deriving DecidableEq, Repr

/-- The ports: one per link (R192, R194). -/
inductive Port where
  | supervisory
  | observer
  | drive (n : Axis)
  deriving DecidableEq, Repr

/-- The payload of a request whose byte layout the manual does not give: either it fits the fields the request's rule
names, and has these contents, or its length does not fit them (R200). -/
inductive Payload (α : Type) where
  | misfit
  | fits (contents : α)
  deriving DecidableEq, Repr, Inhabited

/-- The scope of a hold (R59). -/
inductive Scope where
  | any
  | phase
  deriving DecidableEq, Repr

/-- How an axis is driven (R74). -/
inductive AxisMode where
  | parked
  | free
  | road
  | speed
  deriving DecidableEq, Repr

/-- The fault policy of SET RUN (R53): CONTINUE or STOP. -/
inductive FaultPolicy where
  | proceed
  | stop
  deriving DecidableEq, Repr

/-- A road-load bank's name (R129). -/
inductive BankName where
  | a
  | b
  deriving DecidableEq, Repr

/-- HOLD's contents (R61). No scope stands for a scope that is neither ANY nor PHASE. -/
structure HoldFields where
  scope : Option Scope
  reason : Byte
  duration : Option Nat
  deriving DecidableEq, Repr

/-- RELEASE HOLDER's target (R66). -/
inductive HolderTarget where
  | one (holder : Holder)
  | all
  | other
  deriving DecidableEq, Repr

/-- SET RUN's contents (R53). No policy stands for a value that is neither CONTINUE nor STOP. -/
structure RunFields where
  dwellLimit : Nat
  stopDeceleration : Int
  faultPolicy : Option FaultPolicy
  lowWaterMark : Nat
  traceTolerance : Int
  allowedDeviation : Nat
  deriving DecidableEq, Repr

/-- SET AXIS's contents (R77). No mode stands for a mode that is none of the four. -/
structure AxisFields where
  axis : Nat
  mode : Option AxisMode
  forceLimit : Int
  rollerMass : Int
  deriving DecidableEq, Repr

/-- The seven sync settings (R79): SET SYNC's contents, and the settings in force. -/
structure SyncSettings where
  lockWindow : Int
  slipLimit : Int
  lockConfirm : Nat
  slipPersist : Nat
  gain : Int
  acquiringAuthority : Int
  lockedAuthority : Int
  deriving DecidableEq, Repr

/-- COUPLE's action with the group field as it was carried (R97). -/
inductive CoupleAction where
  | engage (group : Option Nat)
  | release (group : Option Nat)
  | other
  deriving DecidableEq, Repr

/-- COUPLE's contents (R97). -/
structure CoupleFields where
  axis : Nat
  action : CoupleAction
  deriving DecidableEq, Repr

/-- The five guard spacings (R101): SET GUARDS's contents, and the settings in force. -/
structure GuardSettings where
  lockMin : Nat
  freeMin : Nat
  cycleMin : Nat
  staggerSame : Nat
  staggerOther : Nat
  deriving DecidableEq, Repr

/-- The thresholds and the hysteresis (R116): SET BANDS's contents, and the settings in force. -/
structure BandSettings where
  ta : Int
  tb : Int
  tc : Int
  th : Int
  deriving DecidableEq, Repr

/-- One item of SET LOSS (R124). -/
structure LossItem where
  axis : Nat
  band : Nat
  c0 : Int
  c1 : Int
  deriving DecidableEq, Repr

/-- The five coefficients of a bank (R129): drag F0, F1, F2, simulated mass M, front share S. -/
structure Coefficients where
  f0 : Int
  f1 : Int
  f2 : Int
  mass : Int
  frontShare : Int
  deriving DecidableEq, Repr

/-- LOAD BANK's contents (R130). No bank stands for a name that is neither A nor B. -/
structure BankFields where
  bank : Option BankName
  coefficients : Coefficients
  deriving DecidableEq, Repr

/-- The two link settings (R158): SET LINKS's contents, and the settings in force. -/
structure LinkSettings where
  timeout : Nat
  maxSampleAge : Nat
  deriving DecidableEq, Repr

/-- READ RECORD's selector and index (R187). -/
inductive RecordSelector where
  | summary
  | phase (index : Option Nat)
  | exception (index : Option Nat)
  | other
  deriving DecidableEq, Repr

/-- The reactions of the blocks to one boundary (R3's table): the Schedule Engine's with the phase mark lines it drives,
the Directive Unit's, the Hold Set's, the timeout check of one drive link, the Trace Monitor's, and the clock's own halt
at the frame limit. -/
inductive Reaction where
  | schedule
  | directives
  | holds
  | link (n : Axis)
  | trace
  | limit
  deriving DecidableEq, Repr

/-- The commands, in the order of spec/opcode_table.json. `src` is a station request's sender. `dest` is the drive
address 0x30 + dest that a drive used; `n` is the port's axis. -/
inductive Instr where
  /-- SET_CLOCK (R4): a new frame period setting N. -/
  | setClock (src : Sender) (p : Payload Nat)
  /-- CLOCK_START (R5). -/
  | clockStart (src : Sender) (p : Payload Unit)
  /-- CLOCK_HALT (R6). -/
  | clockHalt (src : Sender) (p : Payload Unit)
  /-- RESET (R199): the soft reset. -/
  | reset (src : Sender) (p : Payload Unit)
  /-- APPEND (R27): the payload bytes, one record. -/
  | append (src : Sender) (payload : List Byte)
  /-- LOAD_BLOCK (R23): the payload bytes, a count and that many records. -/
  | loadBlock (src : Sender) (payload : List Byte)
  /-- FLUSH (R30). -/
  | flush (src : Sender) (p : Payload Unit)
  /-- START_RUN (R35). -/
  | startRun (src : Sender) (p : Payload Unit)
  /-- ABORT_RUN (R48). -/
  | abortRun (src : Sender) (p : Payload Unit)
  /-- CLOSE_RUN (R52). -/
  | closeRun (src : Sender) (p : Payload Unit)
  /-- SET_RUN (R53). -/
  | setRun (src : Sender) (p : Payload RunFields)
  /-- HOLD (R61). -/
  | hold (src : Sender) (p : Payload HoldFields)
  /-- RELEASE (R64). -/
  | release (src : Sender) (p : Payload Unit)
  /-- RELEASE_HOLDER (R66). -/
  | releaseHolder (src : Sender) (p : Payload HolderTarget)
  /-- SET_AXIS (R77). -/
  | setAxis (src : Sender) (p : Payload AxisFields)
  /-- SET_SYNC (R79). -/
  | setSync (src : Sender) (p : Payload SyncSettings)
  /-- READ_AXIS (R90): the axis number carried. -/
  | readAxis (src : Sender) (p : Payload Nat)
  /-- COUPLE (R97). -/
  | couple (src : Sender) (p : Payload CoupleFields)
  /-- SET_GUARDS (R102). -/
  | setGuards (src : Sender) (p : Payload GuardSettings)
  /-- SET_BANDS (R117). -/
  | setBands (src : Sender) (p : Payload BandSettings)
  /-- SET_LOSS (R124): the items carried. -/
  | setLoss (src : Sender) (p : Payload (List LossItem))
  /-- LOAD_BANK (R130). -/
  | loadBank (src : Sender) (p : Payload BankFields)
  /-- SELECT_BANK (R132): no bank stands for a name other than A or B. -/
  | selectBank (src : Sender) (p : Payload (Option BankName))
  /-- SET_LINKS (R158). -/
  | setLinks (src : Sender) (p : Payload LinkSettings)
  /-- READ_FAULT (R170): the axis number carried. -/
  | readFault (src : Sender) (p : Payload Nat)
  /-- CLEAR_FAULT (R171): the axis number carried. -/
  | clearFault (src : Sender) (p : Payload Nat)
  /-- ACK_SAFE_STOP (R176). -/
  | ackSafeStop (src : Sender) (p : Payload Unit)
  /-- READ_RECORD (R187). -/
  | readRecord (src : Sender) (p : Payload RecordSelector)
  /-- STATUS (R196). -/
  | status (src : Sender) (p : Payload Unit)
  /-- SNAPSHOT (R197). -/
  | snapshot (src : Sender) (p : Payload Unit)
  /-- PREVIEW (R198). -/
  | preview (src : Sender) (p : Payload Unit)
  /-- UNKNOWN_REQUEST (R195): a taken message on `p` with this address and a kind the link does not carry. -/
  | unknownRequest (p : Port) (address kind : Byte)
  /-- BAD_CHECK_DISCARD (R192): a taken message whose check does not match. -/
  | badCheckDiscard (p : Port)
  /-- ADDRESS_IGNORED (R192): a taken message whose address the port does not take. -/
  | addressIgnored (p : Port) (address : Byte)
  /-- HELLO (R149) on DLn. -/
  | hello (n dest : Axis) (payload : List Byte)
  /-- POLL (R153) on DLn. -/
  | poll (n dest : Axis) (payload : List Byte)
  /-- LOCK_ACQUIRED (R83): the POLL whose sync update makes the axis LOCKED from ACQUIRING. -/
  | lockAcquired (n dest : Axis) (payload : List Byte)
  /-- SLIP_PERSIST (R83): the POLL whose slip count reaches C_slip. -/
  | slipPersist (n dest : Axis) (payload : List Byte)
  /-- FRAME_BOUNDARY (R3): the reactions of `order` are taken first and in that order, then the others, save those of
  `left`, which are left to the event rows below (log 3). -/
  | frameBoundary (order left : List Reaction)
  /-- FRAME_MARK_END (R9). -/
  | frameMarkEnd
  /-- PHASE_LINE_HOLD_END (R11). -/
  | phaseLineHoldEnd
  /-- FRAME_LIMIT (R7). -/
  | frameLimit
  /-- SEGMENT_END (R44). -/
  | segmentEnd
  /-- SEGMENT_START (R40). -/
  | segmentStart
  /-- END_TAKEN (R41). -/
  | endTaken
  /-- DWELL_LIMIT (R45). -/
  | dwellLimit
  /-- STOP_COMPLETE (R49). -/
  | stopComplete
  /-- HOLD_EXPIRY (R69). -/
  | holdExpiry
  /-- LINK_TIMEOUT (R160) of DLn. -/
  | linkTimeout (n : Axis)
  /-- APPLY_ENGAGE (R107) of axis n. -/
  | applyEngage (n : Axis)
  /-- APPLY_RELEASE (R106) of axis n. -/
  | applyRelease (n : Axis)
  /-- TRACE_DEVIATION (R188). -/
  | traceDeviation
  /-- SAFE_STOP_ASSERT (R174). -/
  | safeStopAssert
  /-- SAFE_STOP_DEASSERT (R175). -/
  | safeStopDeassert
  /-- RESET_LINE_ASSERT (R13). -/
  | resetLineAssert
  /-- RESET_LINE_RELEASE (R13, R178): `asserted` is the level of SAFE-STOP at that moment. -/
  | resetLineRelease (asserted : Bool)
  /-- POWER_ON (R13, R178): `asserted` is the level of SAFE-STOP when the supply has settled. -/
  | powerOn (asserted : Bool)
  /-- BREAK (R193). -/
  | lineBreak (p : Port)
  /-- TEAR (R191). -/
  | tear (p : Port)
  /-- ANSWER_SENT (R194). -/
  | answerSent (p : Port)
  /-- LINE_IDLE (R191). -/
  | lineIdle (p : Port)
  /-- BYTE_ARRIVAL (R191). -/
  | byteArrival (p : Port) (b : Byte)
  deriving DecidableEq, Repr

end Sys2Proof
end

