-- ==== Sys2Proof/Decode.lean ====
section
/-!
DEFINITION. Commands spelt by the bits of spec/opcode_table.json. No row of the table has bits: a command is an event or a
message with contents, so no word spells one. The byte layouts of messages are read in Machine/Operands.lean.
-/
namespace Sys2Proof

/-- The command that a word spells by the table's bits: none. -/
def decodeTableWord (nbits w : Nat) : Option Instr :=
  match nbits, w with
  | _, _ => none

end Sys2Proof
end

