-- ==== Sys2Proof/Config.lean ====
section
/-!
DEFINITION. What is fixed for the part, and the free values: constants without a body, of which nothing can be proved but
what holds whatever they are.
-/
namespace Sys2Proof.Config

/-- The last frame number (R7). -/
def frameLimit : Nat := 4294967295

/-- The most pending segment records (R18). -/
def queueCapacity : Nat := 64

/-- The most phase entries (R181). -/
def phaseCapacity : Nat := 16

/-- The most exception entries (R182). -/
def exceptionCapacity : Nat := 32

/-- FREE VALUE (log 12): the order in which the blocks react to the boundary that the k-th such idle step brings, where
R183 says either order may occur. -/
opaque boundaryOrder : Nat → List Reaction

/-! FREE VALUES (log 8): the contents that the bytes of a payload carry, for the requests whose byte layout the manual does
not give (spec/00_scope.md, "What this manual covers"). A payload whose length fits no contents is a misfit (R200). -/

opaque setClockContents : List Byte → Payload Nat
opaque setRunContents : List Byte → Payload RunFields
opaque holdContents : List Byte → Payload HoldFields
opaque releaseHolderContents : List Byte → Payload HolderTarget
opaque setAxisContents : List Byte → Payload AxisFields
opaque setSyncContents : List Byte → Payload SyncSettings
opaque readAxisContents : List Byte → Payload Nat
opaque coupleContents : List Byte → Payload CoupleFields
opaque setGuardsContents : List Byte → Payload GuardSettings
opaque setBandsContents : List Byte → Payload BandSettings
opaque setLossContents : List Byte → Payload (List LossItem)
opaque loadBankContents : List Byte → Payload BankFields
opaque selectBankContents : List Byte → Payload (Option BankName)
opaque setLinksContents : List Byte → Payload LinkSettings
opaque readFaultContents : List Byte → Payload Nat
opaque clearFaultContents : List Byte → Payload Nat
opaque readRecordContents : List Byte → Payload RecordSelector

end Sys2Proof.Config
end

