-- ==== Sys2Proof/Machine/State.lean ====
section
/-!
DEFINITION. The state of the part: every piece of state the manual gives its twelve blocks, as plain data; the model's own
queue of commands; why a step may stop; and the state after reset. Each structure is one block's state table.
-/
namespace Sys2Proof.Machine

/-! ## The Frame Clock (spec/01) -/

/-- R1. -/
inductive ClockState where
  | halted
  | running
  deriving DecidableEq, Repr

/-- The phase mark lines PM0 to PM3 (R10): the levels of the four outputs, or a line set. -/
structure Lines where
  pm0 : Bool
  pm1 : Bool
  pm2 : Bool
  pm3 : Bool
  deriving DecidableEq, Repr

/-- The clock's state (R1, R2), its five outputs (R9, R10) and the timing of lines held over a halt (R11). -/
structure Clock where
  state : ClockState
  /-- N, the frame period setting: a frame lasts (N + 1) × 0.1 ms. -/
  n : Nat
  /-- F, the frame number. -/
  f : Nat
  /-- 0.1 ms units elapsed in the current frame; absent while HALTED. -/
  position : Option Nat
  /-- FRAME MARK active. -/
  frameMark : Bool
  /-- The levels of PM0 to PM3. -/
  lines : Lines
  /-- 0.1 ms units for which lines active at a halt are still held (R11). -/
  lineHold : Option Nat
  deriving DecidableEq, Repr

/-- The boundary in progress: the model's own bookkeeping of the blocks' reactions (log 3). -/
structure Boundary where
  /-- Reactions to the last boundary that have not been taken yet. -/
  owed : List Reaction
  /-- Whether the boundary found the schedule ARMED, RUNNING, DWELL or STOPPING (R70). -/
  foundActive : Bool
  deriving DecidableEq, Repr

/-! ## The Segment Queue (spec/02) -/

/-- A phase (R15): its number 1..15 and its line set. -/
structure Phase where
  number : Nat
  lines : Lines
  deriving DecidableEq, Repr

/-- Coupling group 1 or 2. -/
inductive Group where
  | one
  | two
  deriving DecidableEq, Repr

/-- What a coupling directive orders (R94). -/
inductive Action where
  | engage (g : Group)
  | release
  deriving DecidableEq, Repr

/-- One item of a record's directive list (R15). -/
structure DirectiveItem where
  axis : Axis
  action : Action
  deriving DecidableEq, Repr

/-- A segment's kind with the fields only that kind carries (R16). -/
inductive SegmentKind where
  | ramp (target : Int) (duration : Nat)
  | stand (duration : Nat)
  | closing
  deriving DecidableEq, Repr

/-- A segment record (R15). `SegmentKind.closing` is the kind END. -/
structure Segment where
  number : Nat
  kind : SegmentKind
  phase : Option Phase
  directives : List DirectiveItem
  autoRelease : Bool
  check : BitVec 16
  deriving DecidableEq, Repr

/-- The queue's state. The tail speed is a function of the whole state (R20, `tailSpeed`). -/
structure Queue where
  /-- Oldest first. -/
  records : List Segment
  expected : Nat
  closed : Bool
  lowWaterMark : Nat
  /-- QUEUE LOW (R22). -/
  low : Bool
  deriving DecidableEq, Repr

/-! ## The Schedule Engine (spec/03) -/

/-- R33's seven states. -/
inductive ScheduleState where
  | idle
  | armed
  | running
  | dwell
  | stopping
  | ended
  | aborted
  deriving DecidableEq, Repr

/-- Why a run left its schedule (R50). -/
inductive StopCause where
  | abortRequest
  | dwellLimit
  | axisFault
  | safeStop
  | frameLimit
  deriving DecidableEq, Repr

/-- The active segment (R34). -/
structure ActiveSegment where
  record : Segment
  startSpeed : Int
  startFrame : Nat
  elapsed : Nat
  deriving DecidableEq, Repr

/-- The engine's state. The low-water mark stands in the queue, the trace settings in the Trace Monitor (R53). -/
structure Schedule where
  state : ScheduleState
  active : Option ActiveSegment
  virtualSpeed : Int
  /-- Distance ticks of 1/3600 mm. -/
  distance : Nat
  dwellCount : Nat
  totalDwell : Nat
  startFrame : Option Nat
  runFrame : Nat
  stopCause : Option StopCause
  currentPhase : Option Nat
  dwellLimit : Nat
  stopDeceleration : Int
  faultPolicy : FaultPolicy
  deriving DecidableEq, Repr

/-! ## The Hold Set (spec/04) -/

/-- One entry (R59); its holder is its key. -/
structure HoldEntry where
  scope : Scope
  reason : Byte
  placed : Nat
  expiry : Option Nat
  deriving DecidableEq, Repr

/-- At most one entry per holder (R59). -/
structure HoldSet where
  supervisor : Option HoldEntry
  sampler : Option HoldEntry
  driverAid : Option HoldEntry
  axis : Four (Option HoldEntry)
  deriving DecidableEq, Repr

/-! ## Axis Synchronisation (spec/05) -/

/-- R83's five states. -/
inductive SyncState where
  | uncoupled
  | acquiring
  | locked
  | slipping
  | faulted
  deriving DecidableEq, Repr

/-- The status a drive reports (R153). -/
inductive DriveStatus where
  | ready
  | limited
  | fault
  | brakeSet
  deriving DecidableEq, Repr

/-- An axis record (R74). -/
structure AxisRecord where
  mode : AxisMode
  group : Option Group
  sync : SyncState
  measuredSpeed : Option Int
  sampleFrame : Option Nat
  stale : Bool
  acceleration : Int
  speedError : Int
  lockCount : Nat
  slipCount : Nat
  temperature : Option Int
  driveStatus : Option DriveStatus
  saturated : Bool
  forceLimit : Int
  rollerMass : Int
  deriving DecidableEq, Repr

/-! ## The Directive Unit (spec/06) -/

/-- A pending directive (R94). -/
structure Directive where
  action : Action
  placed : Nat
  deriving DecidableEq, Repr

/-- The last outcome's values (R95). -/
inductive DirectiveOutcome where
  | none
  | deferred
  | applied
  | redundant
  | superseded
  | cancelled
  | refusedSafe
  | refusedFault
  | refusedMode
  | refusedLink
  | refusedEngaged
  deriving DecidableEq, Repr

/-- One axis's part of the Directive Unit. -/
structure DirectiveSlot where
  pending : Option Directive
  outcome : DirectiveOutcome
  outcomeFrame : Nat
  /-- Engage history (R103). -/
  engaged : Option Nat
  /-- Release history (R103). -/
  released : Option Nat
  deriving DecidableEq, Repr

structure DirectiveUnit where
  slots : Four DirectiveSlot
  /-- The placement order, oldest first (R94). -/
  order : List Axis
  guards : GuardSettings
  deriving DecidableEq, Repr

/-! ## The Loss Compensation Unit (spec/07) -/

/-- A temperature band (R122): UNSET, or band 0 to 3. -/
inductive Band where
  | unset
  | band (k : Axis)
  deriving DecidableEq, Repr

/-- One loss table entry (R123). -/
structure LossEntry where
  c0 : Int
  c1 : Int
  deriving DecidableEq, Repr

structure LossUnit where
  settings : BandSettings
  bands : Four Band
  /-- By axis, then by band. -/
  table : Four (Four LossEntry)
  deriving DecidableEq, Repr

/-! ## The Road-Load Unit (spec/08) -/

/-- A bank (R129): an EMPTY one holds no coefficients. -/
inductive Bank where
  | empty
  | loaded (c : Coefficients)
  | active (c : Coefficients)
  deriving DecidableEq, Repr

structure RoadLoad where
  bankA : Bank
  bankB : Bank
  pendingSelection : Option BankName
  deriving DecidableEq, Repr

/-! ## The Drive Link ports (spec/09) -/

/-- R148. -/
inductive LinkState where
  | down
  | up
  | lost
  deriving DecidableEq, Repr

structure DriveLink where
  state : LinkState
  rating : Option Int
  /-- The effective force limit (R152). -/
  limit : Option Int
  /-- The last accepted sample frame (R155). -/
  lastAccepted : Option Nat
  /-- The last-poll frame (R156). -/
  lastPoll : Nat
  deriving DecidableEq, Repr

/-! ## The Fault Unit (spec/10) -/

/-- The causes of an axis fault (R166). -/
inductive Cause where
  | slip
  | linkLost
  | driveFault
  | miswired
  deriving DecidableEq, Repr

/-- A set of causes, in its reporting order (R166). -/
structure CauseSet where
  slip : Bool
  linkLost : Bool
  driveFault : Bool
  miswired : Bool
  deriving DecidableEq, Repr

inductive LatchState where
  | clear
  | set
  deriving DecidableEq, Repr

/-- An axis's fault latch (R166). -/
structure FaultLatch where
  state : LatchState
  firstCause : Option Cause
  faultFrame : Option Nat
  alsoSeen : CauseSet
  driveCode : Option Byte
  armed : Bool
  lastClear : Option Nat
  deriving DecidableEq, Repr

/-- R174. -/
inductive SafetyLatch where
  | normal
  | safeAsserted
  | safeLatched
  deriving DecidableEq, Repr

/-! ## The Run Record and Trace Monitor (spec/11) -/

/-- The run state (R180): NONE, or the state of the run described. -/
inductive RunState where
  | none
  | armed
  | running
  | dwell
  | stopping
  | ended
  | aborted
  deriving DecidableEq, Repr

/-- R181. -/
structure PhaseEntry where
  phase : Nat
  segment : Nat
  runFrame : Nat
  /-- Whole millimetres. -/
  distance : Nat
  deriving DecidableEq, Repr

/-- R182's eight kinds. -/
inductive ExceptionKind where
  | underrunDwell
  | holdDwell
  | slip
  | traceDeviation
  | holdExpired
  | axisFault
  | bankEmpty
  | runStop
  deriving DecidableEq, Repr

/-- The cause field of an exception entry (R182). -/
inductive ExceptionCause where
  | reason (r : Byte)
  | fault (c : Cause)
  | bank (name : BankName)
  | stop (c : StopCause)
  deriving DecidableEq, Repr

/-- R182. -/
structure ExceptionEntry where
  kind : ExceptionKind
  opened : Nat
  closed : Option Nat
  axis : Option Axis
  holder : Option Sender
  cause : Option ExceptionCause
  deriving DecidableEq, Repr

/-- The record of the current run (R180, R184). A reference is a position in the exception list, 1 for the first. -/
structure RunRecord where
  state : RunState
  phases : List PhaseEntry
  exceptions : List ExceptionEntry
  phaseOverflow : Bool
  exceptionOverflow : Bool
  dwellRef : Option Nat
  slipRef : Four (Option Nat)
  traceRef : Option Nat
  deriving DecidableEq, Repr

/-- The Trace Monitor (R188), with the schedule state and the virtual speed that the engine's reaction to the boundary in
progress left, which the monitor reads. -/
structure TraceMonitor where
  deviation : Nat
  tolerance : Int
  allowed : Nat
  leftState : ScheduleState
  leftSpeed : Int
  deriving DecidableEq, Repr

/-! ## Answers and receivers (spec/12) -/

/-- The result codes (R195). -/
inductive Code where
  | ok
  | unknownRequest
  | notPermitted
  | refusedState
  | runActive
  | clockHalted
  | badParam
  | badRange
  | badCheck
  | full
  | outOfSequence
  | speedDiscontinuity
  | queueClosed
  | bankActive
  | noBank
  | noHold
  | notArmed
  | conditionPresent
  | safeStopActive
  | refusedSafe
  | refusedFault
  | refusedMode
  | refusedLink
  | refusedEngaged
  | miswired
  deriving DecidableEq, Repr

/-- How an answer shows a frame that may lie beyond the frame limit (R72, R97). -/
inductive ShownFrame where
  | absent
  | frame (n : Nat)
  | beyondLimit
  deriving DecidableEq, Repr

/-- A hold entry as an answer shows it (R72). -/
structure ShownHold where
  holder : Holder
  scope : Scope
  reason : Byte
  placed : Nat
  expiry : ShownFrame
  deriving DecidableEq, Repr

/-- The queue values of R26. -/
structure QueueReport where
  count : Nat
  expected : Nat
  tailSpeed : Int
  closed : Bool
  low : Bool
  deriving DecidableEq, Repr

/-- R90. -/
structure AxisReport where
  record : AxisRecord
  reference : Int
  groupAcceleration : Int
  correction : Int
  pending : Option Directive
  outcome : DirectiveOutcome
  outcomeFrame : Nat
  link : LinkState
  limit : Option Int
  deriving DecidableEq, Repr

/-- R97. -/
structure CoupleReport where
  pending : Option Directive
  outcome : DirectiveOutcome
  outcomeFrame : Nat
  superseded : Option DirectiveOutcome
  earliest : ShownFrame
  deriving DecidableEq, Repr

/-- R186. -/
structure RunSummary where
  state : RunState
  startFrame : Option Nat
  runFrames : Nat
  distance : Nat
  totalDwell : Nat
  endCause : Option StopCause
  phaseCount : Nat
  exceptionCount : Nat
  phaseOverflow : Bool
  exceptionOverflow : Bool
  deriving DecidableEq, Repr

/-- The entry READ RECORD returns beside the summary (R187). -/
inductive RecordItem where
  | summaryOnly
  | phase (e : PhaseEntry)
  | exception (e : ExceptionEntry)
  | absent
  deriving DecidableEq, Repr

/-- R196. -/
structure StatusReport where
  clock : ClockState
  n : Nat
  schedule : ScheduleState
  queue : QueueReport
  lowWaterMark : Nat
  safety : SafetyLatch
  safeStopAsserted : Bool
  holds : List ShownHold
  links : Four LinkState
  faults : Four LatchState
  activeBank : Option BankName
  pendingSelection : Option BankName
  deriving DecidableEq, Repr

/-- One axis in SNAPSHOT (R197). -/
structure ShownAxis where
  measuredSpeed : Option Int
  sync : SyncState
  fault : Bool
  deriving DecidableEq, Repr

/-- One holder in SNAPSHOT's hold summary (R197): absent, or its scope and expiry. -/
structure ShownHolder where
  holder : Holder
  held : Option (Scope × ShownFrame)
  deriving DecidableEq, Repr

/-- R197. -/
structure SnapshotReport where
  runFrame : Nat
  schedule : ScheduleState
  segment : Option (Nat × Nat)
  virtualSpeed : Int
  distance : Nat
  currentPhase : Option Nat
  holds : List ShownHolder
  axes : Four ShownAxis
  deriving DecidableEq, Repr

/-- A segment's kind and target speed as PREVIEW shows them of the active segment: no duration (R57, R198). Only a RAMP
has a target speed (R16; log 28). -/
inductive ShownKind where
  | ramp (target : Int)
  | stand
  | closing
  deriving DecidableEq, Repr

/-- The active segment in PREVIEW (R57, R198): number, kind, target speed, frames left. -/
structure ShownActive where
  number : Nat
  kind : ShownKind
  framesLeft : Nat
  deriving DecidableEq, Repr

/-- One pending record in PREVIEW (R198). -/
structure ShownSegment where
  number : Nat
  kind : SegmentKind
  phase : Option Phase
  directiveCount : Nat
  autoRelease : Bool
  deriving DecidableEq, Repr

/-- A demand's mode with the field that mode carries (R139, R140). -/
inductive DemandOrder where
  | safe
  | parked
  | free
  | speed (v : Int)
  | road (force : Int)
  deriving DecidableEq, Repr

/-- A demand (R139); its frame is the answer's F. -/
structure Demand where
  axis : Axis
  order : DemandOrder
  brakeOn : Bool
  saturated : Bool
  deriving DecidableEq, Repr

/-- What an answer carries after its header (R195), by the rule of its request. -/
inductive Body where
  /-- The header alone. -/
  | header
  | clock (state : ClockState) (n : Nat)
  | queue (position : Nat) (q : QueueReport)
  | flushed (removed : Nat) (q : QueueReport)
  | schedule (state : ScheduleState)
  | closed (state : ScheduleState) (removed : Nat)
  | runSettings (dwellLimit : Nat) (stopDeceleration : Int) (faultPolicy : FaultPolicy) (lowWaterMark : Nat) (traceTolerance : Int) (allowedDeviation : Nat)
  | held (entry : Option ShownHold)
  | removed (count : Nat)
  | axisSettings (mode : AxisMode) (forceLimit rollerMass : Int) (group : Option Group) (sync : SyncState)
  | sync (settings : SyncSettings)
  | axis (r : AxisReport)
  | couple (r : CoupleReport)
  | guards (settings : GuardSettings)
  | loss (unit : LossUnit)
  | banks (bankA bankB : Bank) (pendingSelection : Option BankName) (state : ScheduleState)
  | links (settings : LinkSettings) (links : Four DriveLink)
  | latch (latch : FaultLatch) (link : LinkState) (status : Option DriveStatus)
  | safety (latch : SafetyLatch) (asserted : Bool)
  | record (summary : RunSummary) (item : RecordItem)
  | status (r : StatusReport)
  | snapshot (r : SnapshotReport)
  | preview (active : Option ShownActive) (count : Nat) (shown : List ShownSegment)
  | hello (axis : Axis) (link : LinkState) (clock : ClockState) (n : Nat)
  | welcome (axis : Axis) (link : LinkState) (clock : ClockState) (n : Nat) (limit : Int) (timeout maxSampleAge : Nat)
  | rejoin (axis : Axis) (link : LinkState)
  | demand (d : Demand)
  deriving DecidableEq, Repr

/-- An answer (R192, R195): its address and kind, the header's result code and F, and the body. -/
structure Answer where
  address : Byte
  kind : Byte
  code : Code
  frame : Nat
  body : Body
  deriving DecidableEq, Repr

/-- A port's receiver (R191, R194). `receiving` and `waiting` are the manual's RECEIVING: the bytes of a message so far,
or the wait, after a discard, a break or an answer, for the line to fall quiet. -/
inductive Receiver where
  | idle
  | receiving (bytes : List Byte)
  | waiting
  | answering (a : Answer)
  deriving DecidableEq, Repr

structure Receivers where
  supervisory : Receiver
  observer : Receiver
  drive : Four Receiver
  deriving DecidableEq, Repr

/-! ## The whole part -/

/-- The state of the part and of its queue of commands. -/
structure State where
  /-- Commands waiting, first in first out. -/
  pending : List Instr
  clock : Clock
  boundary : Boundary
  queue : Queue
  schedule : Schedule
  holds : HoldSet
  axes : Four AxisRecord
  sync : SyncSettings
  directives : DirectiveUnit
  loss : LossUnit
  road : RoadLoad
  links : Four DriveLink
  linkSettings : LinkSettings
  latches : Four FaultLatch
  safety : SafetyLatch
  /-- The recognised SAFE-STOP level (R178). -/
  safeStopAsserted : Bool
  record : RunRecord
  trace : TraceMonitor
  receivers : Receivers
  /-- The RESET line holds the part in reset (R13). -/
  heldInReset : Bool
  /-- How many free values have been drawn (log 12). -/
  drawn : Nat
  deriving DecidableEq, Repr

/-- Why a step may stop with a fault: nothing stops this part (every refusal of the manual is an answer), so there is no
reason (log 23). -/
inductive Fault where
  deriving DecidableEq, Repr

/-- Why a command may have no meaning. -/
inductive Refusal where
  /-- An arm of `exec` whose command has no meaning yet. No arm raises it. Safe: a claim about such a command cannot be
  proved. -/
  | notModelled (mnemonic : String)
  deriving DecidableEq, Repr

/-! ## Full-reset values -/

/-- R1, R9, R10. -/
def Clock.atReset : Clock :=
  { state := .halted, n := 19, f := 0, position := none, frameMark := false
    lines := ⟨false, false, false, false⟩, lineHold := none }

/-- R32. -/
def Queue.atReset : Queue :=
  { records := [], expected := 1, closed := false, lowWaterMark := 8, low := true }

/-- R58, R53. -/
def Schedule.atReset : Schedule :=
  { state := .idle, active := none, virtualSpeed := 0, distance := 0, dwellCount := 0, totalDwell := 0
    startFrame := none, runFrame := 0, stopCause := none, currentPhase := none
    dwellLimit := 5000, stopDeceleration := 1, faultPolicy := .proceed }

/-- R73. -/
def HoldSet.atReset : HoldSet := ⟨none, none, none, .all none⟩

/-- R92. -/
def AxisRecord.atReset : AxisRecord :=
  { mode := .parked, group := none, sync := .uncoupled, measuredSpeed := none, sampleFrame := none, stale := true
    acceleration := 0, speedError := 0, lockCount := 0, slipCount := 0, temperature := none, driveStatus := none
    saturated := false, forceLimit := 6000, rollerMass := 300 }

/-- R79. -/
def syncAtReset : SyncSettings :=
  { lockWindow := 30, slipLimit := 150, lockConfirm := 20, slipPersist := 50, gain := 200
    acquiringAuthority := 1500, lockedAuthority := 3000 }

/-- R114. -/
def DirectiveSlot.atReset : DirectiveSlot :=
  { pending := none, outcome := .none, outcomeFrame := 0, engaged := none, released := none }

/-- R101. -/
def guardsAtReset : GuardSettings :=
  { lockMin := 250, freeMin := 100, cycleMin := 500, staggerSame := 5, staggerOther := 2 }

/-- R128. -/
def LossUnit.atReset : LossUnit :=
  { settings := { ta := 0, tb := 20, tc := 45, th := 3 }, bands := .all .unset, table := .all (.all ⟨0, 0⟩) }

/-- R164. -/
def DriveLink.atReset : DriveLink :=
  { state := .down, rating := none, limit := none, lastAccepted := none, lastPoll := 0 }

/-- R178: the CLEAR values of R166. -/
def FaultLatch.atReset : FaultLatch :=
  { state := .clear, firstCause := none, faultFrame := none, alsoSeen := ⟨false, false, false, false⟩
    driveCode := none, armed := false, lastClear := none }

/-- R190. -/
def RunRecord.atReset : RunRecord :=
  { state := .none, phases := [], exceptions := [], phaseOverflow := false, exceptionOverflow := false
    dwellRef := none, slipRef := .all none, traceRef := none }

/-- The part at the end of a full reset, SAFE-STOP being read asserted or not at that moment (R178). -/
def State.atReset (asserted : Bool) : State :=
  { pending := []
    clock := .atReset
    boundary := { owed := [], foundActive := false }
    queue := .atReset
    schedule := .atReset
    holds := .atReset
    axes := .all .atReset
    sync := syncAtReset
    directives := { slots := .all .atReset, order := [], guards := guardsAtReset }
    loss := .atReset
    road := { bankA := .empty, bankB := .empty, pendingSelection := none }
    links := .all .atReset
    linkSettings := { timeout := 10, maxSampleAge := 2 }
    latches := .all .atReset
    safety := if asserted then .safeAsserted else .safeLatched
    safeStopAsserted := asserted
    record := .atReset
    trace := { deviation := 0, tolerance := 200, allowed := 500, leftState := .idle, leftSpeed := 0 }
    receivers := { supervisory := .idle, observer := .idle, drive := .all .idle }
    heldInReset := false
    drawn := 0 }

/-- The part right after reset. DESIGN CHOICE (log 6): SAFE-STOP is read asserted, as an open wire is (R14). -/
def State.reset : State := State.atReset true

end Sys2Proof.Machine
end

