-- ==== Sys2Proof/Machine/Operands.lean ====
section
/-!
DEFINITION. Reading operands: the check word, multi-byte fields, addresses and kinds (R192, R195), segment records (R200),
HELLO and POLL payloads (R149, R153, R200), axis numbers and ranges. Every byte layout is spec/12, Message layouts.
-/
namespace Sys2Proof.Machine

/-! ## Numbers -/

/-- `lo ≤ x ≤ hi`: a range written a..b includes both ends (spec/00, Conventions). -/
abbrev InRange (lo hi x : Int) : Prop := lo ≤ x ∧ x ≤ hi

/-- The axis a request names, if its number is 0..3. -/
def axisOf (n : Nat) : Option Axis := if h : n < 4 then some ⟨n, h⟩ else none

/-- Coupling group 1 or 2. -/
def groupOf (n : Nat) : Option Group :=
  match n with
  | 1 => some .one
  | 2 => some .two
  | _ => none

/-- A multi-byte field, high byte first. -/
def fieldOf (bytes : List Byte) : Nat := bytes.foldl (fun acc b => acc * 256 + b.toNat) 0

/-- A signed two-byte field, two's complement. -/
def signed16 (n : Nat) : Int := if n < 32768 then n else (n : Int) - 65536

/-- A signed one-byte field, two's complement. -/
def signed8 (n : Nat) : Int := if n < 128 then n else (n : Int) - 256

/-- The low byte of a number. -/
def byteOf (n : Nat) : Byte := BitVec.ofNat 8 n

/-- A two-byte field, high byte first; a negative number in two's complement. -/
def bytes16 (x : Int) : List Byte := [byteOf ((x.emod 65536).toNat / 256), byteOf (x.emod 65536).toNat]

/-- A frame number's four bytes, high byte first. -/
def bytes32 (n : Nat) : List Byte := [byteOf (n / 16777216), byteOf (n / 65536), byteOf (n / 256), byteOf n]

/-! ## The check word (R192) -/

/-- One bit into the register of the generator x¹⁶ + x¹² + x⁵ + 1. -/
def crcBit (r : BitVec 16) (bit : Bool) : BitVec 16 :=
  if r.getLsbD 15 != bit then (r <<< 1) ^^^ 0x1021#16 else r <<< 1

/-- One byte, most significant bit first. -/
def crcByte (r : BitVec 16) (b : Byte) : BitVec 16 :=
  [7, 6, 5, 4, 3, 2, 1, 0].foldl (fun acc i => crcBit acc (b.getLsbD i)) r

/-- The check word of some bytes: the register starts at all ones, no final XOR. -/
def crc (bytes : List Byte) : BitVec 16 := bytes.foldl crcByte 0xFFFF#16

/-! ## Ports, addresses and kinds (R192, R195) -/

/-- Whose message an address on a station port is. -/
def senderOf (p : Port) (address : Byte) : Option Sender :=
  match p with
  | .supervisory => if address.toNat = 0x10 then some .supervisor else none
  | .observer =>
    if address.toNat = 0x21 then some .sampler else if address.toNat = 0x22 then some .driverAid else none
  | .drive _ => none

/-- A station sender's port. -/
def portOf (src : Sender) : Port :=
  match src with
  | .supervisor => .supervisory
  | .sampler => .observer
  | .driverAid => .observer

/-- A station sender's address. -/
def addressOf (src : Sender) : Byte :=
  match src with
  | .supervisor => 0x10#8
  | .sampler => 0x21#8
  | .driverAid => 0x22#8

/-- The drive address 0x30 + k. -/
def driveAddress (k : Axis) : Byte := byteOf (0x30 + k.val)

/-- The addresses a port takes; a drive port takes all four drive addresses. -/
def portTakes (p : Port) (address : Byte) : Bool :=
  match p with
  | .drive _ => decide (0x30 ≤ address.toNat ∧ address.toNat ≤ 0x33)
  | _ => (senderOf p address).isSome

/-- The kinds of the station requests (R195, Availability of requests). -/
def stationKinds : List Nat :=
  [0x01, 0x02, 0x03, 0x08, 0x20, 0x21, 0x22, 0x24, 0x25, 0x26, 0x27, 0x30, 0x31, 0x32, 0x40, 0x41, 0x42, 0x44, 0x45,
   0x48, 0x49, 0x4C, 0x4D, 0x50, 0x54, 0x55, 0x58, 0x5C, 0x60, 0x61, 0x62]

/-- The kinds a link carries (R195, step 1). -/
def linkCarries (p : Port) (kind : Byte) : Bool :=
  match p with
  | .drive _ => decide (kind.toNat = 0x70 ∨ kind.toNat = 0x71)
  | _ => decide (kind.toNat ∈ stationKinds)

/-- The requests an observer may send (R195, step 2): STATUS, SNAPSHOT, PREVIEW, READ RECORD, HOLD and RELEASE. -/
def observerMay (kind : Byte) : Bool := decide (kind.toNat ∈ [0x60, 0x61, 0x62, 0x5C, 0x30, 0x31])

/-- The bytes of a message that are complete: address, kind, length L and 5 + L bytes in all (R191). -/
def messageComplete (bytes : List Byte) : Bool :=
  match bytes with
  | _ :: _ :: len :: _ => decide (bytes.length = 5 + len.toNat)
  | _ => false

/-- A request without parameters: a payload is a misfit (R196, R199, R200). -/
def noParameters (payload : List Byte) : Payload Unit :=
  match payload with
  | [] => .fits ()
  | _ :: _ => .misfit

/-! ## Segment records -/

/-- A record as walked from its form byte (R200), before any record check. -/
structure RawRecord where
  number : Nat
  form : Nat
  target : Nat
  duration : Nat
  phase : Option Nat
  directives : List Nat
  check : Nat
  /-- The bytes the record's check covers (R17). -/
  covered : List Byte
  deriving DecidableEq, Repr

namespace RawRecord

/-- Bits 0–1 of the form: 1 RAMP, 2 STAND, 3 END. -/
def kindBits (r : RawRecord) : Nat := r.form % 4
/-- Bit 6 of the form. -/
def autoRelease (r : RawRecord) : Bool := decide (r.form / 64 % 2 = 1)

end RawRecord

/-- How many bytes a record has between its form byte and its check (R200): fixed by kind, directive count, phase bit. -/
def formLength (form : Nat) : Nat :=
  (if form % 4 = 1 then 4 else if form % 4 = 2 then 2 else 0) + form / 32 % 2 + form / 4 % 8

/-- One record walked off the front of the bytes, with the bytes after it; none where they end too early. -/
def walkRecord (bytes : List Byte) : Option (RawRecord × List Byte) :=
  match bytes with
  | n1 :: n0 :: formByte :: rest =>
    let form := formByte.toNat
    let len := formLength form
    if rest.length < len + 2 then none
    else
      let fields := rest.take len
      let afterTarget := if form % 4 = 1 then fields.drop 2 else fields
      let afterDuration := if form % 4 = 1 ∨ form % 4 = 2 then afterTarget.drop 2 else afterTarget
      let hasPhase := form / 32 % 2 = 1
      some
        ({ number := fieldOf [n1, n0]
           form := form
           target := if form % 4 = 1 then fieldOf (fields.take 2) else 0
           duration := if form % 4 = 1 ∨ form % 4 = 2 then fieldOf (afterTarget.take 2) else 0
           phase := if hasPhase then some (fieldOf (afterDuration.take 1)) else none
           directives := (if hasPhase then afterDuration.drop 1 else afterDuration).map (·.toNat)
           check := fieldOf ((rest.drop len).take 2)
           covered := n1 :: n0 :: formByte :: fields },
         rest.drop (len + 2))
  | _ => none

/-- Exactly `count` records that end exactly at the end of the bytes. -/
def walkRecords (count : Nat) (bytes : List Byte) : Option (List RawRecord) :=
  match count with
  | 0 => if bytes = [] then some [] else none
  | k + 1 =>
    match walkRecord bytes with
    | none => none
    | some (r, rest) => (walkRecords k rest).map (r :: ·)

/-- A LOAD BLOCK's records: a count byte 1..16 and exactly that many records (check 4 of R23). -/
def blockRecords (payload : List Byte) : Option (List RawRecord) :=
  match payload with
  | [] => none
  | c :: rest => if 1 ≤ c.toNat ∧ c.toNat ≤ 16 then walkRecords c.toNat rest else none

/-- The axis a directive byte names (bits 0–1). -/
def itemAxis (d : Nat) : Axis := ⟨d % 4, Nat.mod_lt d (by decide)⟩

/-- A directive byte's form (check b of R24, R200): action 1 with a group, or 2 without one; bits 6–7 zero. -/
abbrev ItemWellFormed (d : Nat) : Prop :=
  d / 64 = 0 ∧ ((d / 4 % 4 = 1 ∧ d / 16 % 4 ≠ 0) ∨ (d / 4 % 4 = 2 ∧ d / 16 % 4 = 0))

/-- Check b of R24: the form of a record, as R200 binds it. -/
abbrev RecordWellFormed (r : RawRecord) : Prop :=
  r.kindBits ≠ 0 ∧ r.form / 128 = 0 ∧ r.form / 4 % 8 ≤ 4 ∧
  (r.kindBits = 3 → r.phase = none ∧ r.directives = [] ∧ r.autoRelease = false) ∧
  (∀ d ∈ r.directives, ItemWellFormed d) ∧ (r.directives.map itemAxis).Nodup

/-- Check c of R24: the ranges of a record's fields. -/
abbrev RecordInRange (r : RawRecord) : Prop :=
  1 ≤ r.number ∧ r.number ≤ 65535 ∧ r.target ≤ 20000 ∧
  (r.kindBits ≠ 3 → 1 ≤ r.duration ∧ r.duration ≤ 60000) ∧
  (∀ p ∈ r.phase, p / 16 ≠ 0 ∧ p % 16 ≠ 0) ∧
  (∀ d ∈ r.directives, d / 4 % 4 = 1 → d / 16 % 4 ≠ 3)

/-- A line set from bits 0–3, bit n for PMn. -/
def linesOf (bits : Nat) : Lines :=
  { pm0 := decide (bits % 2 = 1), pm1 := decide (bits / 2 % 2 = 1), pm2 := decide (bits / 4 % 2 = 1)
    pm3 := decide (bits / 8 % 2 = 1) }

/-- A directive item, of a byte that passed checks b and c. -/
def itemOf (d : Nat) : DirectiveItem :=
  { axis := itemAxis d
    action := if d / 4 % 4 = 2 then .release else if d / 16 % 4 = 1 then .engage .one else .engage .two }

/-- The segment a record that passed checks b and c describes (R15). -/
def segmentOf (r : RawRecord) : Segment :=
  { number := r.number
    kind := if r.kindBits = 1 then .ramp r.target r.duration else if r.kindBits = 2 then .stand r.duration else .closing
    phase := r.phase.map fun p => { number := p / 16 % 16, lines := linesOf p }
    directives := r.directives.map itemOf
    autoRelease := r.autoRelease
    check := BitVec.ofNat 16 r.check }

/-! ## HELLO and POLL -/

/-- A HELLO's fields (R149): the axis number and the force rating, before their checks; none where the length is not 3. -/
def helloFields (payload : List Byte) : Option (Nat × Nat) :=
  match payload with
  | [a, r1, r0] => some (a.toNat, fieldOf [r1, r0])
  | _ => none

/-- A well-formed POLL (R153). -/
structure PollFields where
  axis : Axis
  sampleFrame : Nat
  speed : Int
  temperature : Option Int
  status : DriveStatus
  /-- The drive fault code, with the status FAULT. -/
  faultCode : Option Byte
  deriving DecidableEq, Repr

/-- The drive status codes of the POLL layout. -/
def statusOf (n : Nat) : Option DriveStatus :=
  match n with
  | 0 => some .ready
  | 1 => some .limited
  | 2 => some .fault
  | 3 => some .brakeSet
  | _ => none

/-- The bytes after the flags: the temperature, if the flag says so, and the fault code, if the status is FAULT. -/
def pollTail (hasTemperature : Bool) (status : DriveStatus) (rest : List Byte) : Option (Option Int × Option Byte) :=
  match hasTemperature, decide (status = .fault), rest with
  | false, false, [] => some (none, none)
  | true, false, [t] => some (some (signed8 t.toNat), none)
  | false, true, [c] => some (none, some c)
  | true, true, [t, c] => some (some (signed8 t.toNat), some c)
  | _, _, _ => none

/-- A POLL's fields; none where it is malformed (R153, R200). -/
def pollFields (payload : List Byte) : Option PollFields :=
  match payload with
  | a :: s3 :: s2 :: s1 :: s0 :: v1 :: v0 :: st :: flags :: rest =>
    match axisOf a.toNat, statusOf st.toNat with
    | some axis, some status =>
      if flags.toNat ≤ 1 then
        (pollTail (decide (flags.toNat = 1)) status rest).map fun tail =>
          { axis := axis, sampleFrame := fieldOf [s3, s2, s1, s0], speed := signed16 (fieldOf [v1, v0])
            temperature := tail.1, status := status, faultCode := tail.2 }
      else none
    | _, _ => none
  | _ => none

end Sys2Proof.Machine
end

