-- ==== Sys2Proof/Machine/Flags.lean ====
section
/-!
DEFINITION. Flags and values read off the state: the run's activity, the tail speed, the gate, the sync comparisons, the
group reference and acceleration, the earliest frame of a directive, the terms of a demand. Each is computed at the
moment it is needed and kept nowhere (R20, R38, R81, R104, R139).
-/
namespace Sys2Proof.Machine

/-! ## Homes of the per-axis state -/

def State.axis (s : State) (n : Axis) : AxisRecord := s.axes.get n
def State.link (s : State) (n : Axis) : DriveLink := s.links.get n
def State.slot (s : State) (n : Axis) : DirectiveSlot := s.directives.slots.get n
def State.latch (s : State) (n : Axis) : FaultLatch := s.latches.get n

/-- A port's receiver. -/
def State.receiver (s : State) (p : Port) : Receiver :=
  match p with
  | .supervisory => s.receivers.supervisory
  | .observer => s.receivers.observer
  | .drive n => s.receivers.drive.get n

/-! ## The schedule and the queue -/

/-- A run is active while the schedule is ARMED, RUNNING, DWELL or STOPPING (spec/03). -/
def ScheduleState.active (x : ScheduleState) : Bool :=
  match x with
  | .armed | .running | .dwell | .stopping => true
  | .idle | .ended | .aborted => false

def State.runActive (s : State) : Bool := s.schedule.state.active

/-- The three states in which distance and run frame advance (R46, R47). -/
def ScheduleState.underway (x : ScheduleState) : Bool :=
  match x with
  | .running | .dwell | .stopping => true
  | .idle | .armed | .ended | .aborted => false

/-- A segment's end speed: a RAMP's target, 0 for a STAND or an END (R15). -/
def Segment.endSpeed (g : Segment) : Int :=
  match g.kind with
  | .ramp target _ => target
  | .stand _ | .closing => 0

/-- A segment's duration (an END has none). -/
def Segment.duration (g : Segment) : Nat :=
  match g.kind with
  | .ramp _ d => d
  | .stand d => d
  | .closing => 0

/-- The number after a segment number: 65535 is followed by 1 (R19). -/
def numberAfter (n : Nat) : Nat := if n = 65535 then 1 else n + 1

/-- The speed from which the next accepted segment starts (R20). -/
def tailSpeed (s : State) : Int :=
  match s.queue.records.getLast? with
  | some g => g.endSpeed
  | none =>
    match s.schedule.state, s.schedule.active with
    | .running, some a => a.record.endSpeed
    | _, _ => s.schedule.virtualSpeed

/-- QUEUE LOW recomputed (R22). -/
def Queue.withLow (q : Queue) : Queue := { q with low := decide (q.records.length ≤ q.lowWaterMark) }

/-- The speed of an active segment at elapsed count `k` (R42), truncated toward the start speed. -/
def rampSpeed (v0 vt : Int) (k d : Nat) : Int := v0 + ((vt - v0) * k).tdiv d

/-- Whether the boundary being taken ends the active segment (R44). -/
def segmentEnds (s : State) : Bool :=
  match s.schedule.active with
  | some a => decide (a.record.duration ≤ a.elapsed + 1)
  | none => false

/-! ## The hold set and the gate -/

/-- The holders in the fixed holder order (R59). -/
def holders : List Holder :=
  [.external .supervisor, .external .sampler, .external .driverAid, .axis 0, .axis 1, .axis 2, .axis 3]

def HoldSet.get (h : HoldSet) (who : Holder) : Option HoldEntry :=
  match who with
  | .external .supervisor => h.supervisor
  | .external .sampler => h.sampler
  | .external .driverAid => h.driverAid
  | .axis n => h.axis.get n

def HoldSet.put (h : HoldSet) (who : Holder) (e : Option HoldEntry) : HoldSet :=
  match who with
  | .external .supervisor => { h with supervisor := e }
  | .external .sampler => { h with sampler := e }
  | .external .driverAid => { h with driverAid := e }
  | .axis n => { h with axis := h.axis.set n e }

/-- An entry counts unless its expiry frame is at or before F (R38). -/
def HoldEntry.counts (e : HoldEntry) (f : Nat) : Bool :=
  match e.expiry with
  | some x => decide (f < x)
  | none => true

/-- Some counting entry has this scope. -/
def someCounting (s : State) (scope : Scope) : Bool :=
  holders.any fun who =>
    match s.holds.get who with
    | some e => e.counts s.clock.f && decide (e.scope = scope)
    | none => false

/-- The gate (R38): a head that no counting entry holds back. -/
def gateOpen (s : State) : Bool :=
  match s.queue.records with
  | [] => false
  | head :: _ => !someCounting s .any && !(head.phase.isSome && someCounting s .phase)

/-- The gate is open on a RAMP or STAND head, or on an END head. -/
def gateOpenOn (s : State) (closing : Bool) : Bool :=
  gateOpen s && match s.queue.records with
    | [] => false
    | head :: _ => decide ((head.kind = .closing) = (closing = true))

/-! ## Groups (R81, R82) -/

/-- The three coupled states (R80). -/
def SyncState.coupled (x : SyncState) : Bool :=
  match x with
  | .acquiring | .locked | .slipping => true
  | .uncoupled | .faulted => false

/-- The counted members of a group (R81). -/
def countedMembers (s : State) (g : Group) : List Axis :=
  Sys2Proof.axes.filter fun i =>
    decide ((s.axis i).group = some g) && (s.axis i).sync.coupled && decide ((s.link i).state = .up) && !(s.axis i).stale

/-- A mean truncated toward zero. -/
def mean (xs : List Int) : Int := xs.sum.tdiv xs.length

/-- An axis's own measured speed, or 0 where its record holds none. -/
def ownSpeed (s : State) (n : Axis) : Int := (s.axis n).measuredSpeed.getD 0

/-- The reference of an axis (R81). -/
def reference (s : State) (n : Axis) : Int :=
  match (s.axis n).group with
  | none => ownSpeed s n
  | some g =>
    match countedMembers s g with
    | [] => ownSpeed s n
    | i :: is => mean ((i :: is).map (ownSpeed s))

/-- The group acceleration an axis is loaded for (R82). -/
def groupAcceleration (s : State) (n : Axis) : Int :=
  match (s.axis n).group with
  | none => (s.axis n).acceleration
  | some g =>
    match countedMembers s g with
    | [] => (s.axis n).acceleration
    | i :: is => mean ((i :: is).map fun j => (s.axis j).acceleration)

/-- A value clipped to ±limit. -/
def clip (limit x : Int) : Int := if x > limit then limit else if x < -limit then -limit else x

/-- The coupling correction (R85). -/
def correction (s : State) (n : Axis) : Int :=
  let raw := (s.sync.gain * (s.axis n).speedError).tdiv 10
  match (s.axis n).sync with
  | .acquiring => clip s.sync.acquiringAuthority raw
  | .locked | .slipping => clip s.sync.lockedAuthority raw
  | .uncoupled | .faulted => 0

/-! ## The guards (R104) -/

/-- The axle partner of an axis. -/
def partner (n : Axis) : Axis :=
  match n with
  | 0 => 1
  | 1 => 0
  | 2 => 3
  | 3 => 2

/-- The two axes of the other axle. -/
def otherAxle (n : Axis) : Axis × Axis :=
  match n with
  | 0 | 1 => (2, 3)
  | 2 | 3 => (0, 1)

/-- The larger of two terms, a missing one being left out. -/
def laterOf (x y : Option Nat) : Option Nat :=
  match x, y with
  | some a, some b => some (max a b)
  | some a, none => some a
  | none, y => y

/-- A history's term: the frame plus the guard; none where the history is absent. -/
def spaced (history : Option Nat) (guard : Nat) : Option Nat := history.map (· + guard)

/-- The earliest frame of a directive's action for axis n; none where no guard constrains it (R104). -/
def earliestFrame (s : State) (n : Axis) (action : Action) : Option Nat :=
  let g := s.directives.guards
  match action with
  | .release => spaced (s.slot n).engaged g.lockMin
  | .engage _ =>
    laterOf (laterOf (spaced (s.slot n).released g.freeMin) (spaced (s.slot n).engaged g.cycleMin))
      (laterOf (spaced (s.slot (partner n)).engaged g.staggerSame)
        (spaced (laterOf (s.slot (otherAxle n).1).engaged (s.slot (otherAxle n).2).engaged) g.staggerOther))

/-- The guards allow a directive at the F in force. -/
def guardsAllow (s : State) (n : Axis) (action : Action) : Bool :=
  match earliestFrame s n action with
  | some e => decide (e ≤ s.clock.f)
  | none => true

/-- How an answer shows a frame that may be absent or beyond the frame limit (R72, R97). -/
def shownFrame (x : Option Nat) : ShownFrame :=
  match x with
  | none => .absent
  | some n => if n ≤ Config.frameLimit then .frame n else .beyondLimit

/-! ## Placement checks (R96) -/

/-- Why a directive for axis n is refused, if it is. -/
def placementRefusal (s : State) (n : Axis) (action : Action) : Option DirectiveOutcome :=
  if s.safety ≠ .normal then some .refusedSafe
  else if (s.latch n).state = .set then some .refusedFault
  else
    match action with
    | .release => none
    | .engage g =>
      if (s.axis n).mode ≠ .road then some .refusedMode
      else if (s.link n).state ≠ .up then some .refusedLink
      else if (s.axis n).group ≠ none ∧ (s.axis n).group ≠ some g then some .refusedEngaged
      else none

/-- A directive that would change nothing (R105, step 2). -/
def redundant (s : State) (n : Axis) (action : Action) : Bool :=
  match action with
  | .engage g => decide ((s.axis n).group = some g)
  | .release => decide ((s.axis n).sync = .uncoupled)

/-! ## Losses (R120, R121, R125) -/

/-- A band's upper edge, if it has one (R116). -/
def upperEdge (c : BandSettings) (k : Axis) : Option Int :=
  match k with
  | 0 => some c.ta
  | 1 => some c.tb
  | 2 => some c.tc
  | 3 => none

/-- A band's lower edge, if it has one (R116). -/
def lowerEdge (c : BandSettings) (k : Axis) : Option Int :=
  match k with
  | 0 => none
  | 1 => some c.ta
  | 2 => some c.tb
  | 3 => some c.tc

/-- The band above and the band below. -/
def bandAbove (k : Axis) : Axis :=
  match k with
  | 0 => 1
  | 1 => 2
  | 2 | 3 => 3

def bandBelow (k : Axis) : Axis :=
  match k with
  | 0 | 1 => 0
  | 2 => 1
  | 3 => 2

/-- The rising test (R121). -/
def rises (c : BandSettings) (t : Int) (k : Axis) : Bool :=
  match upperEdge c k with
  | some e => decide (e + c.th ≤ t)
  | none => false

/-- The falling test (R121). -/
def falls (c : BandSettings) (t : Int) (k : Axis) : Bool :=
  match lowerEdge c k with
  | some e => decide (t < e)
  | none => false

/-- The two tests applied until neither moves the band; a move never reverses, so four rounds settle it (R121). -/
def settleBand (c : BandSettings) (t : Int) (rounds : Nat) (k : Axis) : Axis :=
  match rounds with
  | 0 => k
  | r + 1 =>
    if rises c t k then settleBand c t r (bandAbove k)
    else if falls c t k then settleBand c t r (bandBelow k)
    else k

/-- The band a first temperature places an axis in, with no hysteresis (R120). -/
def firstBand (c : BandSettings) (t : Int) : Axis := if t < c.ta then 0 else if t < c.tb then 1 else if t < c.tc then 2 else 3

/-- A band after a temperature. -/
def evaluateBand (c : BandSettings) (t : Int) (b : Band) : Band :=
  match b with
  | .unset => .band (firstBand c t)
  | .band k => .band (settleBand c t 4 k)

/-- The loss term L of axis n (R125), 0 while its band is UNSET. -/
def lossTerm (s : State) (n : Axis) : Int :=
  match s.loss.bands.get n with
  | .unset => 0
  | .band k =>
    let e := (s.loss.table.get n).get k
    e.c0 + (e.c1 * ((ownSpeed s n).natAbs : Int)).tdiv 10000

/-- The signed loss: L × sign(v) (R125). -/
def signedLoss (s : State) (n : Axis) : Int := lossTerm s n * (ownSpeed s n).sign

/-! ## Road load and inertia (R136 to R138) -/

/-- The coefficients of a bank that is ACTIVE. -/
def Bank.activeCoefficients (b : Bank) : Option Coefficients :=
  match b with
  | .active c => some c
  | .loaded _ | .empty => none

def RoadLoad.bank (r : RoadLoad) (name : BankName) : Bank :=
  match name with
  | .a => r.bankA
  | .b => r.bankB

def RoadLoad.setBank (r : RoadLoad) (name : BankName) (x : Bank) : RoadLoad :=
  match name with
  | .a => { r with bankA := x }
  | .b => { r with bankB := x }

/-- The other bank's name. -/
def otherBank (name : BankName) : BankName :=
  match name with
  | .a => .b
  | .b => .a

/-- The name of the ACTIVE bank, if one is. -/
def activeBank (r : RoadLoad) : Option BankName :=
  if r.bankA.activeCoefficients.isSome then some .a
  else if r.bankB.activeCoefficients.isSome then some .b
  else none

/-- The ACTIVE bank's coefficients, if a bank is ACTIVE. -/
def activeCoefficients (r : RoadLoad) : Option Coefficients :=
  (activeBank r).bind fun name => (r.bank name).activeCoefficients

/-- The road-load force at a reference speed (R136). -/
def roadForce (c : Coefficients) (v : Int) : Int :=
  if (v.natAbs : Int) ≤ 50 then 0
  else v.sign * (c.f0 + (c.f1 * (v.natAbs : Int)).tdiv 10000 + (c.f2 * (v * v)).tdiv 100000000)

/-- The axle share of an axis in percent (R137, R138). -/
def axleShare (c : Coefficients) (n : Axis) : Int :=
  match n with
  | 0 | 1 => c.frontShare
  | 2 | 3 => 100 - c.frontShare

/-- The road-load share of axis n (R137). -/
def roadShare (s : State) (c : Coefficients) (n : Axis) : Int :=
  (roadForce c (reference s n) * axleShare c n).tdiv 200

/-- The inertia term of axis n (R138). -/
def inertiaTerm (s : State) (c : Coefficients) (n : Axis) : Int :=
  ((c.mass * axleShare c n - 200 * (s.axis n).rollerMass) * groupAcceleration s n).tdiv (720 * ((s.clock.n : Int) + 1))

/-- The sum of a ROAD demand's four terms, before clipping (R144). -/
def roadSum (s : State) (n : Axis) : Int :=
  (match activeCoefficients s.road with
    | some c => roadShare s c n + inertiaTerm s c n
    | none => 0)
  - signedLoss s n + correction s n

/-- The effective force limit a demand is clipped to (R145). It is present on an UP link (R152); log 18. -/
def effectiveLimit (s : State) (n : Axis) : Int := (s.link n).limit.getD (s.axis n).forceLimit

/-- The demand of axis n (R140, R144, R145). -/
def demandFor (s : State) (n : Axis) : Demand :=
  let plain (order : DemandOrder) (brake : Bool) : Demand := { axis := n, order := order, brakeOn := brake, saturated := false }
  if s.safety ≠ .normal then plain .safe true
  else if s.clock.state = .halted then plain .parked true
  else if (s.latch n).state = .set then plain .free false
  else
    match (s.axis n).mode with
    | .parked => plain .parked true
    | .free => plain .free false
    | .speed => plain (.speed s.schedule.virtualSpeed) false
    | .road =>
      { axis := n, order := .road (clip (effectiveLimit s n) (roadSum s n)), brakeOn := false
        saturated := decide (effectiveLimit s n < ((roadSum s n).natAbs : Int)) }

/-! ## The Trace Monitor's comparison (R188) -/

/-- The comparison set: every axis whose mode is ROAD, whose link is UP and whose record holds a measured speed. -/
def comparisonSet (s : State) : List Axis :=
  Sys2Proof.axes.filter fun i =>
    decide ((s.axis i).mode = .road) && decide ((s.link i).state = .up) && (s.axis i).measuredSpeed.isSome

/-- What a comparison finds: none where none is made, else whether the mean lies outside tolerance. -/
def traceOutside (s : State) : Option Bool :=
  match s.trace.leftState with
  | .running | .dwell =>
    match comparisonSet s with
    | [] => none
    | i :: is => some (decide (s.trace.tolerance < ((mean ((i :: is).map (ownSpeed s)) - s.trace.leftSpeed).natAbs : Int)))
  | .idle | .armed | .stopping | .ended | .aborted => none

/-! ## The sample's class (R155) -/

/-- Accepted, stale or repeat. -/
inductive SampleClass where
  | accepted
  | stale
  | repeated
  deriving DecidableEq, Repr

/-- The six tests of R155, in order. -/
def classify (f : Nat) (last : Option Nat) (maxAge sampleFrame : Nat) (speed : Int) : SampleClass :=
  if f < sampleFrame then .stale
  else if ∃ l ∈ last, sampleFrame < l then .stale
  else if maxAge < f - sampleFrame then .stale
  else if last = some sampleFrame then .repeated
  else if InRange (-3000) 22000 speed then .accepted
  else .stale

end Sys2Proof.Machine
end

