-- ==== Sys2Proof/Machine/Ops.lean ====
section
/-!
DEFINITION. The shared operations: one home for each write of the state, and the events that several commands bring about:
an entry of the run record, a stop and an end of the run, an axis's departure from its group, a cause at a fault latch
with the whole reaction to an axis fault, the placing and concluding of a directive, a lost link, a delivery.
-/
namespace Sys2Proof.Machine

/-! ## Writes -/

def State.setAxis (s : State) (n : Axis) (r : AxisRecord) : State := { s with axes := s.axes.set n r }
def State.setLink (s : State) (n : Axis) (l : DriveLink) : State := { s with links := s.links.set n l }
def State.setLatch (s : State) (n : Axis) (l : FaultLatch) : State := { s with latches := s.latches.set n l }

def State.setSlot (s : State) (n : Axis) (x : DirectiveSlot) : State :=
  { s with directives := { s.directives with slots := s.directives.slots.set n x } }

/-- The placement order replaced. -/
def State.setOrder (s : State) (order : List Axis) : State :=
  { s with directives := { s.directives with order := order } }

/-- A holder's entry placed, replaced or removed. -/
def State.setHold (s : State) (who : Holder) (e : Option HoldEntry) : State := { s with holds := s.holds.put who e }

def State.setReceiver (s : State) (p : Port) (r : Receiver) : State :=
  match p with
  | .supervisory => { s with receivers := { s.receivers with supervisory := r } }
  | .observer => { s with receivers := { s.receivers with observer := r } }
  | .drive n => { s with receivers := { s.receivers with drive := s.receivers.drive.set n r } }

/-- The schedule replaced. -/
def State.withSchedule (s : State) (x : Schedule) : State := { s with schedule := x }

/-- The run record replaced. -/
def State.withRecord (s : State) (x : RunRecord) : State := { s with record := x }

/-! ## The run record (R180 to R185) -/

/-- The run state that shows a schedule state (R180); the schedule's IDLE shows nothing of its own. -/
def ScheduleState.runState (x : ScheduleState) (before : RunState) : RunState :=
  match x with
  | .idle => before
  | .armed => .armed
  | .running => .running
  | .dwell => .dwell
  | .stopping => .stopping
  | .ended => .ended
  | .aborted => .aborted

/-- The schedule state changed, the run state following it (R180). -/
def setScheduleState (s : State) (x : ScheduleState) : State :=
  (s.withSchedule { s.schedule with state := x }).withRecord { s.record with state := x.runState s.record.state }

/-- An entry placed at the end of the exception list, or lost because the list is full (R183). -/
def placeEntry (s : State) (e : ExceptionEntry) : State :=
  if s.record.exceptions.length < Config.exceptionCapacity then
    s.withRecord { s.record with exceptions := s.record.exceptions ++ [e] }
  else s.withRecord { s.record with exceptionOverflow := true }

/-- An entry handed to the Run Record: placed while the run is active (R183). -/
def handEntry (s : State) (e : ExceptionEntry) : State := if s.runActive then placeEntry s e else s

/-- A point entry at the run frame in force (R182). -/
def pointEntry (s : State) (kind : ExceptionKind) (cause : ExceptionCause) : ExceptionEntry :=
  { kind := kind, opened := s.schedule.runFrame, closed := none, axis := none, holder := none, cause := some cause }

/-- An episode's entry at the run frame in force, still open (R182). -/
def episodeEntry (s : State) (kind : ExceptionKind) (axis : Option Axis) : ExceptionEntry :=
  { kind := kind, opened := s.schedule.runFrame, closed := none, axis := axis, holder := none, cause := none }

/-- The position at which an entry handed now is placed, if it is placed. -/
def openingPosition (s : State) : Option Nat :=
  if s.runActive ∧ s.record.exceptions.length < Config.exceptionCapacity then some (s.record.exceptions.length + 1)
  else none

/-- The entry at a position closed at the run frame in force (R184). -/
def closeEntry (s : State) (position : Option Nat) : State :=
  match position with
  | none => s
  | some p =>
    s.withRecord
      { s.record with
        exceptions := s.record.exceptions.modify (p - 1) fun e => { e with closed := some s.schedule.runFrame } }

/-- A dwell episode opened, of kind UNDERRUN_DWELL or HOLD_DWELL (R44, R184). -/
def openDwell (s : State) (kind : ExceptionKind) : State :=
  let position := openingPosition s
  let t := handEntry s (episodeEntry s kind none)
  match position with
  | some p => t.withRecord { t.record with dwellRef := some p }
  | none => t

/-- The end of a dwell (R45, R184). -/
def closeDwell (s : State) : State :=
  let t := closeEntry s s.record.dwellRef
  t.withRecord { t.record with dwellRef := none }

/-- A slip start (R84). -/
def openSlip (s : State) (n : Axis) : State :=
  let position := openingPosition s
  let t := handEntry s (episodeEntry s .slip (some n))
  match position with
  | some p => t.withRecord { t.record with slipRef := t.record.slipRef.set n (some p) }
  | none => t

/-- A slip end (R84). -/
def closeSlip (s : State) (n : Axis) : State :=
  let t := closeEntry s (s.record.slipRef.get n)
  t.withRecord { t.record with slipRef := t.record.slipRef.set n none }

/-- A TRACE_DEVIATION start (R188). -/
def openTrace (s : State) : State :=
  let position := openingPosition s
  let t := handEntry s (episodeEntry s .traceDeviation none)
  match position with
  | some p => t.withRecord { t.record with traceRef := some p }
  | none => t

/-- A TRACE_DEVIATION end (R188). -/
def closeTrace (s : State) : State :=
  let t := closeEntry s s.record.traceRef
  t.withRecord { t.record with traceRef := none }

/-- Every open episode closed (R185). -/
def closeEpisodes (s : State) : State :=
  closeTrace (closeSlip (closeSlip (closeSlip (closeSlip (closeDwell s) 0) 1) 2) 3)

/-- A RUN_STOP entry (R50), placed even as the run leaves its active states (R183). -/
def placeRunStop (s : State) (cause : StopCause) : State := placeEntry s (pointEntry s .runStop (.stop cause))

/-! ## Stops and ends of a run (R48 to R56) -/

/-- The entry into ENDED or ABORTED (R51): the segment discarded, the speed and the dwell count 0, the pending selection
discarded (R135), every open episode closed (R185). -/
def finishRun (s : State) (final : ScheduleState) (cause : Option StopCause) : State :=
  let t := setScheduleState s final
  closeEpisodes
    { t with
      schedule := { t.schedule with active := none, virtualSpeed := 0, dwellCount := 0, stopCause := cause }
      road := { t.road with pendingSelection := none } }

/-- The entry into ENDED, by an END taken at the gate (R41). -/
def enterEnded (s : State) : State := finishRun s .ended none

/-- The entry into ABORTED other than at the completion of a stopping ramp (R50, R55, R56). -/
def enterAborted (s : State) (cause : StopCause) : State := finishRun (placeRunStop s cause) .aborted (some cause)

/-- The completion of a stopping ramp (R49): the stop cause stays and no entry is made. -/
def completeStop (s : State) : State := finishRun s .aborted s.schedule.stopCause

/-- The entry into STOPPING (R48, R45, R54): the segment cut short or the dwell ended, a RUN_STOP entry (R50). -/
def enterStopping (s : State) (cause : StopCause) : State :=
  let t := if s.schedule.state = .dwell then closeDwell s else s
  let u := setScheduleState t .stopping
  placeRunStop (u.withSchedule { u.schedule with active := none, stopCause := some cause }) cause

/-- What the fault policy does at an axis fault (R54). -/
def applyFaultPolicy (s : State) : State :=
  match s.schedule.faultPolicy, s.schedule.state with
  | .stop, .armed => enterAborted s .axisFault
  | .stop, .running | .stop, .dwell => enterStopping s .axisFault
  | _, _ => s

/-! ## Departures and directives -/

/-- The coupling part of a record with no group (R87, R88). -/
def AxisRecord.uncouple (a : AxisRecord) (sync : SyncState) : AxisRecord :=
  { a with group := none, sync := sync, lockCount := 0, slipCount := 0, speedError := 0 }

/-- A departure handed to the Directive Unit: the release history takes the F in force (R103). -/
def recordDeparture (s : State) (n : Axis) : State := s.setSlot n { s.slot n with released := some s.clock.f }

/-- An axis leaves its group for UNCOUPLED or FAULTED: its slip ends, the record changes, and the departure of a grouped
axis is handed (R87, R88). -/
def leaveGroup (s : State) (n : Axis) (sync : SyncState) : State :=
  let t := if (s.axis n).sync = .slipping then closeSlip s n else s
  let u := t.setAxis n ((s.axis n).uncouple sync)
  if (s.axis n).group.isSome then recordDeparture u n else u

/-- A release of a grouped axis (R87); nothing for an axis in no group. -/
def releaseAxis (s : State) (n : Axis) : State :=
  if (s.axis n).group.isSome then leaveGroup s n .uncoupled else s

/-- A pending directive concluded with an outcome at the F in force: its entry and its place are removed (R94, R95). -/
def concludeDirective (s : State) (n : Axis) (o : DirectiveOutcome) : State :=
  (s.setSlot n { s.slot n with pending := none, outcome := o, outcomeFrame := s.clock.f }).setOrder
    (s.directives.order.filter (· ≠ n))

/-- A pending directive, if any, concluded CANCELLED (R110 to R112). -/
def cancelDirective (s : State) (n : Axis) : State :=
  if (s.slot n).pending.isSome then concludeDirective s n .cancelled else s

/-- A directive placed, or refused at placement, for axis n (R96). -/
def placeDirective (s : State) (n : Axis) (action : Action) : State :=
  match placementRefusal s n action with
  | some o => s.setSlot n { s.slot n with outcome := o, outcomeFrame := s.clock.f }
  | none =>
    (s.setSlot n
      { s.slot n with
        pending := some { action := action, placed := s.clock.f }, outcome := .deferred, outcomeFrame := s.clock.f }).setOrder
      (s.directives.order.filter (· ≠ n) ++ [n])

/-! ## Axis faults (R166 to R169) -/

/-- The reason of an axis entry: the code of the fault's first cause (R67). -/
def Cause.code (c : Cause) : Byte :=
  match c with
  | .slip => 1
  | .linkLost => 2
  | .driveFault => 3
  | .miswired => 4

/-- A kind of cause joined to the also-seen set (R169). -/
def CauseSet.insert (x : CauseSet) (c : Cause) : CauseSet :=
  match c with
  | .slip => { x with slip := true }
  | .linkLost => { x with linkLost := true }
  | .driveFault => { x with driveFault := true }
  | .miswired => { x with miswired := true }

/-- The AXIS_FAULT entry (R182). -/
def axisFaultEntry (s : State) (n : Axis) (c : Cause) : ExceptionEntry :=
  { pointEntry s .axisFault (.fault c) with axis := some n }

/-- The neighbours' reactions to an axis fault, in their order (R168): the record and its departure, the pending directive,
the hold entry, the run record, the fault policy. -/
def faultReactions (s : State) (n : Axis) (c : Cause) : State :=
  let t := cancelDirective (leaveGroup s n .faulted) n
  let u := t.setHold (.axis n) (some { scope := .any, reason := c.code, placed := t.clock.f, expiry := none })
  applyFaultPolicy (handEntry u (axisFaultEntry u n c))

/-- A cause handed to the Fault Unit for axis n, with the drive fault code a DRIVE_FAULT carries: it sets a clear latch,
which is the axis fault (R167, R168), and joins a set one (R169). -/
def raiseCause (s : State) (n : Axis) (c : Cause) (code : Option Byte) : State :=
  let l := s.latch n
  match l.state with
  | .clear =>
    faultReactions
      (s.setLatch n
        { l with
          state := .set, firstCause := some c, faultFrame := some s.clock.f
          driveCode := if c = .driveFault then code else none })
      n c
  | .set =>
    s.setLatch n
      { l with
        alsoSeen := l.alsoSeen.insert c, armed := false
        driveCode := if c = .driveFault then code else l.driveCode }

/-! ## Links and deliveries -/

/-- A departure from UP handed to the axis record (R75, R148). -/
def setStale (s : State) (n : Axis) : State := s.setAxis n { s.axis n with stale := true }

/-- Whether a loss of the link now hands LINK_LOST (R162). -/
def lossFaults (s : State) (n : Axis) : Bool :=
  (s.axis n).group.isSome ||
    ((decide ((s.axis n).mode = .road) || decide ((s.axis n).mode = .speed)) && decide (s.clock.state = .running))

/-- An UP link becomes LOST, by timeout or by break (R161, R162). -/
def loseLink (s : State) (n : Axis) : State :=
  let t := setStale (s.setLink n { s.link n with state := .lost }) n
  if lossFaults s n then raiseCause t n .linkLost none else t

/-- The link goes DOWN by miswiring, with the cause MISWIRED for the port's own axis (R151, R154). -/
def miswire (s : State) (n : Axis) : State :=
  let t := if (s.link n).state = .up then setStale s n else s
  raiseCause (t.setLink n { t.link n with state := .down }) n .miswired none

/-- The sync update of axis n (R83). -/
def syncUpdate (s : State) (n : Axis) : State :=
  let a := s.axis n
  let e := ownSpeed s n - reference s n
  let size : Int := e.natAbs
  match a.sync with
  | .uncoupled | .faulted => s
  | .acquiring =>
    if size ≤ s.sync.lockWindow then
      let count := min 255 (a.lockCount + 1)
      s.setAxis n
        { a with
          speedError := e, lockCount := count
          sync := if s.sync.lockConfirm ≤ count then .locked else .acquiring }
    else s.setAxis n { a with speedError := e, lockCount := 0 }
  | .locked =>
    if size ≤ s.sync.slipLimit then s.setAxis n { a with speedError := e }
    else
      let t := openSlip (s.setAxis n { a with speedError := e, sync := .slipping, slipCount := 1 }) n
      if s.sync.slipPersist ≤ 1 then raiseCause t n .slip none else t
  | .slipping =>
    if s.sync.slipLimit < size then
      let count := min 255 (a.slipCount + 1)
      let t := s.setAxis n { a with speedError := e, slipCount := count }
      if s.sync.slipPersist ≤ count then raiseCause t n .slip none else t
    else if size ≤ s.sync.lockWindow then
      closeSlip (s.setAxis n { a with speedError := e, sync := .locked, slipCount := 0 }) n
    else s.setAxis n { a with speedError := e }

/-- The acceleration estimate of a new accepted sample (R75). -/
def accelerationEstimate (a : AxisRecord) (v : Int) (sample : Nat) : Int :=
  match a.measuredSpeed, a.sampleFrame with
  | some vPrev, some sPrev => ((v - vPrev) * 100).tdiv ((sample : Int) - sPrev)
  | _, _ => 0

/-- An accepted sample stored (R75), with its temperature handed to the Loss Compensation Unit (R76, R119). -/
def storeAccepted (s : State) (n : Axis) (v : Int) (sample : Nat) (temperature : Option Int) : State :=
  let a := s.axis n
  let t := s.setAxis n
    { a with
      measuredSpeed := some v, sampleFrame := some sample, stale := false
      acceleration := accelerationEstimate a v sample
      temperature := temperature.orElse fun _ => a.temperature }
  match temperature with
  | none => t
  | some d =>
    { t with loss := { t.loss with bands := t.loss.bands.set n (evaluateBand t.loss.settings d (t.loss.bands.get n)) } }

/-- A delivery taken by the record of axis n, in R76's order. -/
def deliver (s : State) (n : Axis) (cls : SampleClass) (p : PollFields) (temperature : Option Int) : State :=
  let t := s.setAxis n { s.axis n with driveStatus := some p.status }
  let u := if p.status = .fault then raiseCause t n .driveFault p.faultCode else t
  match cls with
  | .accepted =>
    let w := storeAccepted u n p.speed p.sampleFrame temperature
    if p.status = .fault then w else syncUpdate w n
  | .stale => setStale u n
  | .repeated => u

/-- The effective force limit recomputed from the rating and the configured limit (R152). -/
def refreshLimit (s : State) (n : Axis) : State :=
  s.setLink n { s.link n with limit := (s.link n).rating.map fun r => min (s.axis n).forceLimit r }

/-! ## The queue -/

/-- FLUSH's effect on the queue (R30). -/
def flushQueue (s : State) : State :=
  { s with queue := { s.queue with records := [], expected := 1, closed := false }.withLow }

/-- The phase mark lines all inactive, none held (R8, R13). -/
def clearLines (s : State) : State :=
  { s with clock := { s.clock with lines := ⟨false, false, false, false⟩, lineHold := none } }

end Sys2Proof.Machine
end

