-- ==== Sys2Proof/Machine/Boundary.lean ====
section
/-!
DEFINITION. The frame boundary (R3): the advance of F, the reaction of each block, the order in which reactions are taken, and
the rows of the table that name an event of one boundary. Log entries 2, 3, 4, 12 and 16.
-/
namespace Sys2Proof.Machine

/-! ## The Schedule Engine's reaction (R37) -/

/-- The distance of one frame at the virtual speed in force, added in RUNNING, DWELL and STOPPING (R46). -/
def addDistance (s : State) : State :=
  if s.schedule.state.underway then
    s.withSchedule
      { s.schedule with
        distance := s.schedule.distance + (s.schedule.virtualSpeed * ((s.clock.n : Int) + 1)).toNat }
  else s

/-- The head taken from the queue (R29). -/
def takeHead (s : State) : State := { s with queue := { s.queue with records := s.queue.records.drop 1 }.withLow }

/-- The pending selection at a segment start (R134). -/
def applySelection (s : State) : State :=
  match s.road.pendingSelection with
  | none => s
  | some name =>
    match s.road.bank name with
    | .loaded c =>
      let other :=
        match s.road.bank (otherBank name) with
        | .active d => .loaded d
        | x => x
      { s with road := { (s.road.setBank name (.active c)).setBank (otherBank name) other with pendingSelection := none } }
    | .active _ => { s with road := { s.road with pendingSelection := none } }
    | .empty =>
      handEntry { s with road := { s.road with pendingSelection := none } } (pointEntry s .bankEmpty (.bank name))

/-- A segment's directive items placed one by one in ascending axis number (R99). -/
def placeItems (s : State) (items : List DirectiveItem) : State :=
  Sys2Proof.axes.foldl
    (fun acc n =>
      match items.find? fun item => decide (item.axis = n) with
      | some item => placeDirective acc n item.action
      | none => acc)
    s

/-- The releases of an auto-release: one for every axis in a group, in ascending axis number (R100). -/
def placeAutoReleases (s : State) : State :=
  Sys2Proof.axes.foldl (fun acc n => if (acc.axis n).group.isSome then placeDirective acc n .release else acc) s

/-- A phase entry, or its loss (R181). -/
def placePhase (s : State) (number segment : Nat) : State :=
  if s.record.phases.length < Config.phaseCapacity then
    s.withRecord
      { s.record with
        phases :=
          s.record.phases ++
            [{ phase := number, segment := segment, runFrame := s.schedule.runFrame, distance := s.schedule.distance / 3600 }] }
  else s.withRecord { s.record with phaseOverflow := true }

/-- The phase mark lines take a segment's line set (R10). -/
def driveLines (s : State) (lines : Lines) : State := { s with clock := { s.clock with lines := lines } }

/-- A segment start handed to the four blocks that react to it (R40). -/
def handStart (s : State) (g : Segment) : State :=
  let t := placeItems (applySelection s) g.directives
  match g.phase with
  | none => t
  | some p => placePhase (driveLines t p.lines) p.number g.number

/-- The schedule of a segment that starts at the virtual speed in force (R40). -/
def beginSegment (s : State) (g : Segment) : State :=
  s.withSchedule
    { s.schedule with
      active := some { record := g, startSpeed := s.schedule.virtualSpeed, startFrame := s.clock.f, elapsed := 0 }
      dwellCount := 0
      startFrame := some (s.schedule.startFrame.getD s.clock.f)
      currentPhase := match g.phase with
        | some p => some p.number
        | none => s.schedule.currentPhase }

/-- A RAMP or STAND taken at the gate starts (R40): a dwell in progress ends, the record becomes the active segment, the
distance of this boundary is added (R46), and the start is handed on. -/
def startSegment (s : State) (g : Segment) : State :=
  let t := if s.schedule.state = .dwell then closeDwell s else s
  handStart (addDistance (beginSegment (setScheduleState (takeHead t) .running) g)) g

/-- The head taken at an open gate (R38): a RAMP or STAND starts, an END ends the run. -/
def takeAtGate (s : State) : State :=
  match s.queue.records with
  | [] => s
  | g :: _ =>
    match g.kind with
    | .closing => enterEnded (takeHead s)
    | .ramp _ _ | .stand _ => startSegment s g

/-- The entry into DWELL at a shut gate, with its cause judged there (R44). -/
def enterDwell (s : State) : State :=
  let t := setScheduleState s .dwell
  let u := t.withSchedule { t.schedule with active := none, dwellCount := 0 }
  addDistance (openDwell u (if s.queue.records = [] then .underrunDwell else .holdDwell))

/-- The reaction in ARMED. -/
def reactArmed (s : State) : State := if gateOpen s then takeAtGate s else s

/-- One boundary of an active segment's progress (R42). -/
def progress (s : State) (a : ActiveSegment) : State :=
  s.withSchedule
    { s.schedule with
      virtualSpeed := rampSpeed a.startSpeed a.record.endSpeed (min (a.elapsed + 1) a.record.duration) a.record.duration
      active := some { a with elapsed := a.elapsed + 1 } }

/-- The end of a segment (R44): its auto-release (R100), then the segment is discarded. -/
def endSegment (s : State) (g : Segment) : State :=
  let t := if g.autoRelease then placeAutoReleases s else s
  t.withSchedule { t.schedule with active := none }

/-- The gate after a segment's end (R44). -/
def passGate (s : State) : State := if gateOpen s then takeAtGate s else enterDwell s

/-- The reaction in RUNNING (R42, R44): progress, and at the segment's end its auto-release and the gate. -/
def reactRunning (s : State) : State :=
  match s.schedule.active with
  | none => addDistance s
  | some a =>
    if a.elapsed + 1 < a.record.duration then addDistance (progress s a)
    else passGate (endSegment (progress s a) a.record)

/-- A frame of dwell (R45). -/
def countDwell (s : State) : State :=
  s.withSchedule { s.schedule with dwellCount := s.schedule.dwellCount + 1, totalDwell := s.schedule.totalDwell + 1 }

/-- The reaction in DWELL (R45): the gate first, then the dwell count and its limit. -/
def reactDwell (s : State) : State :=
  if gateOpen s then takeAtGate s
  else
    let t := countDwell s
    addDistance (if t.schedule.dwellLimit ≤ t.schedule.dwellCount then enterStopping t .dwellLimit else t)

/-- One boundary of the stopping ramp (R49). -/
def rampDown (s : State) : State :=
  s.withSchedule { s.schedule with virtualSpeed := max 0 (s.schedule.virtualSpeed - s.schedule.stopDeceleration) }

/-- The reaction in STOPPING (R49). -/
def reactStopping (s : State) : State :=
  let t := rampDown s
  if t.schedule.virtualSpeed = 0 then completeStop t else addDistance t

/-- The engine's reaction, by the state in which the boundary finds it (R37). -/
def reactSchedule (s : State) : State :=
  match s.schedule.state with
  | .idle | .ended | .aborted => s
  | .armed => reactArmed s
  | .running => reactRunning s
  | .dwell => reactDwell s
  | .stopping => reactStopping s

/-- The engine's reaction with the phase mark lines, whose level at each boundary depends only on its segment start (R10,
R11), and with what it leaves for the Trace Monitor (R188). -/
def scheduleReaction (s : State) : State :=
  let t := reactSchedule (clearLines s)
  { t with trace := { t.trace with leftState := t.schedule.state, leftSpeed := t.schedule.virtualSpeed } }

/-! ## The Directive Unit's reaction (R105 to R108) -/

/-- An ENGAGE applied (R86, R107). -/
def applyEngage (s : State) (n : Axis) (g : Group) : State :=
  let t := s.setSlot n { s.slot n with engaged := some s.clock.f }
  let u := t.setAxis n
    { t.axis n with group := some g, sync := .acquiring, lockCount := 0, slipCount := 0, speedError := 0 }
  concludeDirective u n .applied

/-- A RELEASE applied (R87, R106). -/
def applyRelease (s : State) (n : Axis) : State := concludeDirective (releaseAxis s n) n .applied

/-- One pending directive considered (R105). -/
def considerDirective (s : State) (n : Axis) : State :=
  match (s.slot n).pending with
  | none => s
  | some d =>
    if s.clock.f ≤ d.placed then s
    else
      match placementRefusal s n d.action with
      | some o => concludeDirective s n o
      | none =>
        if redundant s n d.action then concludeDirective s n .redundant
        else if !guardsAllow s n d.action then s
        else
          match d.action with
          | .release => applyRelease s n
          | .engage g => if (s.axis n).driveStatus = some .brakeSet then s else applyEngage s n g

/-- The axis has a pending RELEASE. -/
def pendingRelease (s : State) (n : Axis) : Bool :=
  match (s.slot n).pending with
  | some d => decide (d.action = .release)
  | none => false

/-- The axis has a pending ENGAGE. -/
def pendingEngage (s : State) (n : Axis) : Bool := (s.slot n).pending.isSome && !pendingRelease s n

/-- The application at a boundary: every release considered, then one pass over the engages in placement order (R106,
R107). -/
def directivesReaction (s : State) : State :=
  let t := Sys2Proof.axes.foldl (fun acc n => if pendingRelease acc n then considerDirective acc n else acc) s
  t.directives.order.foldl (fun acc n => if pendingEngage acc n then considerDirective acc n else acc) t

/-! ## The Hold Set's reaction (R69, R70) -/

/-- The entry reaches its expiry frame at this boundary. -/
def expiresNow (s : State) (who : Holder) : Bool :=
  match s.holds.get who with
  | some e => decide (e.expiry = some s.clock.f)
  | none => false

/-- The HOLD_EXPIRED entry (R182). -/
def expiredEntry (s : State) (who : Holder) (e : HoldEntry) : ExceptionEntry :=
  { pointEntry s .holdExpired (.reason e.reason) with
    holder := match who with
      | .external x => some x
      | .axis _ => none }

/-- One holder's entry removed at its expiry, with its record where the boundary found the run active (R69, R70). DESIGN
CHOICE (log 26): an entry placed with a duration of 1 since the last boundary is removed too, as R69 and the note of R62 say,
although R63 says that the boundary does not remove a HOLD's new entry. -/
def expireHold (s : State) (who : Holder) : State :=
  match s.holds.get who with
  | none => s
  | some e =>
    if e.expiry = some s.clock.f then
      let t := s.setHold who none
      if s.boundary.foundActive then placeEntry t (expiredEntry s who e) else t
    else s

def holdsReaction (s : State) : State := holders.foldl expireHold s

/-! ## The link timeout check (R160) -/

/-- An UP link silent for more than the link timeout. -/
def linkSilent (s : State) (n : Axis) : Bool :=
  decide ((s.link n).state = .up) && decide ((s.link n).lastPoll + s.linkSettings.timeout < s.clock.f)

def linkReaction (s : State) (n : Axis) : State := if linkSilent s n then loseLink s n else s

/-! ## The Trace Monitor's reaction (R188) -/

/-- The comparison brings the deviation counter to the allowed deviation. -/
def deviationStarts (s : State) : Bool :=
  decide (traceOutside s = some true) && decide (s.trace.deviation < s.trace.allowed) &&
    decide (s.trace.deviation + 1 = s.trace.allowed)

def traceReaction (s : State) : State :=
  match traceOutside s with
  | none => s
  | some true =>
    let t := { s with trace := { s.trace with deviation := min s.trace.allowed (s.trace.deviation + 1) } }
    if deviationStarts s then openTrace t else t
  | some false =>
    let t := { s with trace := { s.trace with deviation := 0 } }
    if s.trace.allowed ≤ s.trace.deviation then closeTrace t else t

/-! ## The frame limit (R7, R56) -/

/-- A line is active. -/
def Lines.some (l : Lines) : Bool := l.pm0 || l.pm1 || l.pm2 || l.pm3

/-- The clock halts `rest` units of 0.1 ms before the end of a frame: the frame position is discarded, and lines active
from this frame are held to its end (R11). Lines already held keep their own moment. -/
def haltClock (s : State) (rest : Nat) : State :=
  { s with
    clock :=
      { s.clock with
        state := .halted
        position := none
        lineHold :=
          if s.clock.lines.some then
            match s.clock.lineHold with
            | some r => some r
            | none => some rest
          else none } }

/-- The clock's own halt after the last boundary (R7), handed to the Schedule Engine (R56). -/
def limitReaction (s : State) : State :=
  if s.clock.f = Config.frameLimit then
    let t := haltClock s (s.clock.n + 1)
    if t.runActive then enterAborted t .frameLimit else t
  else s

/-! ## Taking the reactions -/

/-- One block's reaction. -/
def react (r : Reaction) (s : State) : State :=
  match r with
  | .schedule => scheduleReaction s
  | .directives => directivesReaction s
  | .holds => holdsReaction s
  | .link n => linkReaction s n
  | .trace => traceReaction s
  | .limit => limitReaction s

/-- The reactions in the model's own order (log 3). -/
def reactions : List Reaction :=
  [.schedule, .directives, .holds, .link 0, .link 1, .link 2, .link 3, .trace, .limit]

/-- A reaction taken, if it is still owed. -/
def takeOwed (s : State) (r : Reaction) : State :=
  if r ∈ s.boundary.owed then
    react r { s with boundary := { s.boundary with owed := s.boundary.owed.filter (· ≠ r) } }
  else s

/-- A reaction taken after those the manual puts before it: the engine's before the monitor's (R188), every other before
the halt at the frame limit (R7). -/
def takeReaction (s : State) (r : Reaction) : State :=
  match r with
  | .trace => takeOwed (takeOwed s .schedule) .trace
  | .limit => reactions.foldl takeOwed s
  | r => takeOwed s r

/-- Every owed reaction taken: a boundary is taken in full before any other event (R6, R8, R25). -/
def settle (s : State) : State := reactions.foldl takeOwed s

/-- The boundary is produced: F advances, FRAME MARK goes active, a new frame begins, the run frame counts it (R3, R9, R47),
and every block owes its reaction. -/
def beginBoundary (s : State) : State :=
  let f := s.clock.f + 1
  { s with
    clock := { s.clock with f := f, position := some 0, frameMark := true }
    boundary := { owed := reactions, foundActive := s.runActive }
    schedule :=
      { s.schedule with
        runFrame :=
          match s.schedule.startFrame with
          | some f0 => if s.schedule.state.underway then f - f0 else s.schedule.runFrame
          | none => s.schedule.runFrame } }

/-- A boundary occurs while the clock is RUNNING, the part is not held in reset, and F is below its limit (R2, R7, R13). -/
def boundaryOccurs (s : State) : Bool :=
  decide (s.clock.state = .running) && !s.heldInReset && decide (s.clock.f < Config.frameLimit)

/-- A reaction stays owed: it is left, or it may not be taken before one that is left (R188, R7). -/
def leftOwed (left : List Reaction) (r : Reaction) : Bool :=
  decide (r ∈ left) ||
    match r with
    | .trace => decide (Reaction.schedule ∈ left)
    | .limit => !left.isEmpty
    | .schedule | .directives | .holds | .link _ => false

/-- A frame boundary: the reactions of `order` first, then the others in the model's own order, those of `left` staying
owed. -/
def boundaryStep (order left : List Reaction) (s : State) : State :=
  let t := settle s
  if boundaryOccurs t then
    ((order ++ reactions).filter (!leftOwed left ·)).foldl takeReaction (beginBoundary t)
  else t

/-- FRAME_BOUNDARY (R3). -/
def execFrameBoundary (order left : List Reaction) (s : State) : Host.Outcome State Fault Refusal :=
  .next (boundaryStep order left s)

/-! ## The events of a boundary as rows of their own (log 4) -/

/-- An owed reaction taken where it brings the named event about; otherwise the event does not occur. -/
def takeEvent (r : Reaction) (happens : Bool) (s : State) : State :=
  if r ∈ s.boundary.owed ∧ happens = true then takeReaction s r else s

/-- FRAME_LIMIT (R7): the halt after the last boundary, once every other block has reacted. -/
def execFrameLimit (s : State) : Host.Outcome State Fault Refusal :=
  .next (takeEvent .limit (decide (s.clock.f = Config.frameLimit)) s)

/-- The boundary being taken finds a RUNNING segment at its end. -/
def segmentEndsNow (s : State) : Bool := decide (s.schedule.state = .running) && segmentEnds s

/-- The gate is evaluated at this boundary: in ARMED, in DWELL, and at a segment's end (R38). -/
def gateEvaluated (s : State) : Bool :=
  match s.schedule.state with
  | .armed | .dwell => true
  | .running => segmentEnds s
  | .idle | .stopping | .ended | .aborted => false

/-- SEGMENT_END (R44). -/
def execSegmentEnd (s : State) : Host.Outcome State Fault Refusal :=
  .next (takeEvent .schedule (segmentEndsNow s) s)

/-- SEGMENT_START (R40). -/
def execSegmentStart (s : State) : Host.Outcome State Fault Refusal :=
  .next (takeEvent .schedule (gateEvaluated s && gateOpenOn s false) s)

/-- END_TAKEN (R41). -/
def execEndTaken (s : State) : Host.Outcome State Fault Refusal :=
  .next (takeEvent .schedule (gateEvaluated s && gateOpenOn s true) s)

/-- DWELL_LIMIT (R45). -/
def execDwellLimit (s : State) : Host.Outcome State Fault Refusal :=
  .next
    (takeEvent .schedule
      (decide (s.schedule.state = .dwell) && !gateOpen s && decide (s.schedule.dwellLimit ≤ s.schedule.dwellCount + 1)) s)

/-- STOP_COMPLETE (R49). -/
def execStopComplete (s : State) : Host.Outcome State Fault Refusal :=
  .next
    (takeEvent .schedule
      (decide (s.schedule.state = .stopping) && decide (s.schedule.virtualSpeed ≤ s.schedule.stopDeceleration)) s)

/-- HOLD_EXPIRY (R69). -/
def execHoldExpiry (s : State) : Host.Outcome State Fault Refusal :=
  .next (takeEvent .holds (holders.any (expiresNow s)) s)

/-- LINK_TIMEOUT (R160) of DLn. -/
def execLinkTimeout (n : Axis) (s : State) : Host.Outcome State Fault Refusal :=
  .next (takeEvent (.link n) (linkSilent s n) s)

/-- The Directive Unit's reaction now would apply the pending directive of axis n. -/
def appliesNow (s : State) (n : Axis) : Bool :=
  let t := directivesReaction s
  (s.slot n).pending.isSome && decide ((t.slot n).outcome = .applied ∧ (t.slot n).outcomeFrame = s.clock.f) &&
    (t.slot n).pending.isNone

/-- APPLY_ENGAGE (R107) of axis n. -/
def execApplyEngage (n : Axis) (s : State) : Host.Outcome State Fault Refusal :=
  .next (takeEvent .directives (pendingEngage s n && appliesNow s n) s)

/-- APPLY_RELEASE (R106) of axis n. -/
def execApplyRelease (n : Axis) (s : State) : Host.Outcome State Fault Refusal :=
  .next (takeEvent .directives (pendingRelease s n && appliesNow s n) s)

/-- TRACE_DEVIATION (R188): the engine's reaction is taken first where it is still owed. -/
def execTraceDeviation (s : State) : Host.Outcome State Fault Refusal :=
  .next (takeEvent .trace (deviationStarts (takeOwed s .schedule)) s)

/-! ## Time on an empty queue (R2, R9, R11; log 2) -/

/-- One unit of 0.1 ms off the hold of lines held over a halt. -/
def countLineHold (s : State) : State :=
  match s.clock.lineHold with
  | none => s
  | some r => if r ≤ 1 then clearLines s else { s with clock := { s.clock with lineHold := some (r - 1) } }

/-- One count of the 10 kHz time base: a FRAME MARK pulse is over, held lines count down, and while the clock runs the
frame position advances or, having reached N, passes it and a boundary occurs (R2), its reactions in a free order. -/
def tick (s : State) : State :=
  if s.heldInReset then s
  else
    let t := settle s
    let u := countLineHold { t with clock := { t.clock with frameMark := false } }
    match u.clock.state with
    | .halted => u
    | .running =>
      let p := u.clock.position.getD 0
      if p < u.clock.n then { u with clock := { u.clock with position := some (p + 1) } }
      else boundaryStep (Config.boundaryOrder u.drawn) [] { u with drawn := u.drawn + 1 }

end Sys2Proof.Machine
end

