-- ==== Sys2Proof/Machine/Ports.lean ====
section
/-!
DEFINITION. Taking a request on a port and answering it (R192, R194, R195), and the bytes of the answers whose layout the
manual gives. A command that is a whole message is taken when its port's receiver is IDLE; bytes that arrive in another
state are discarded (R191, R194; log 1).
-/
namespace Sys2Proof.Machine

/-- What handling a request leaves: the state, the result code, the answer's body, and the answer's kind where it is not
the request's own. -/
structure Served where
  state : State
  code : Code
  body : Body
  kind : Option Byte := none

/-- A refusal or a read: the state unchanged. -/
def refuse (s : State) (code : Code) (body : Body) : Served := { state := s, code := code, body := body }

/-- The answer's address: the request's with the top bit set (R192). -/
def answerAddress (address : Byte) : Byte := address ||| 0x80#8

/-- A request handled whole, its answer composed from the state that leaves, and the receiver ANSWERING (R194). -/
def serve (p : Port) (address kind : Byte) (h : State → Served) (s : State) : State :=
  let r := h s
  r.state.setReceiver p
    (.answering
      { address := answerAddress address, kind := r.kind.getD kind, code := r.code, frame := r.state.clock.f
        body := r.body })

/-- A station request of a kind the link carries: an observer's is refused with NOT_PERMITTED unless it may send it
(R195). -/
def permitted (src : Sender) (kind : Byte) (h : State → Served) (s : State) : Served :=
  if src = .supervisor ∨ observerMay kind = true then h s else refuse s .notPermitted .header

/-- The port can take a message now: the part is not held in reset and the receiver is IDLE (R13, R191). -/
def portReady (s : State) (p : Port) : Bool := !s.heldInReset && decide (s.receiver p = .idle)

/-- A whole message on a port, after any boundary in progress. -/
def takeMessage (p : Port) (handled : State → State) (s : State) : State :=
  let t := settle s
  if portReady t p then handled t else t

/-- A station request as a command. -/
def takeStation (src : Sender) (kind : Byte) (h : State → Served) (s : State) : State :=
  takeMessage (portOf src) (serve (portOf src) (addressOf src) kind (permitted src kind h)) s

/-- A drive's request as a command, on DLn, after the drive address 0x30 + dest. -/
def takeDrive (n dest : Axis) (kind : Byte) (h : State → Served) (s : State) : State :=
  takeMessage (.drive n) (serve (.drive n) (driveAddress dest) kind h) s

/-- UNKNOWN_REQUEST's answer (R195): the header alone. -/
def unknownServed (s : State) : Served := refuse s .unknownRequest .header

/-- UNKNOWN_REQUEST (R195): a message whose address the port takes and whose kind the link does not carry. -/
def execUnknownRequest (p : Port) (address kind : Byte) (s : State) : Host.Outcome State Fault Refusal :=
  .next
    (takeMessage p
      (fun t => if portTakes p address && !linkCarries p kind then serve p address kind unknownServed t else t) s)

/-- BAD_CHECK_DISCARD (R192): discarded without an answer. -/
def execBadCheckDiscard (p : Port) (s : State) : Host.Outcome State Fault Refusal := .next (takeMessage p id s)

/-- ADDRESS_IGNORED (R192): ignored without an answer. -/
def execAddressIgnored (p : Port) (address : Byte) (s : State) : Host.Outcome State Fault Refusal :=
  .next (takeMessage p (fun t => if portTakes p address then t else id t) s)

/-! ## The bytes of an answer -/

/-- The result codes' values (R195). -/
def Code.value (c : Code) : Nat :=
  match c with
  | .ok => 0
  | .unknownRequest => 1
  | .notPermitted => 2
  | .refusedState => 3
  | .runActive => 4
  | .clockHalted => 5
  | .badParam => 6
  | .badRange => 7
  | .badCheck => 8
  | .full => 9
  | .outOfSequence => 10
  | .speedDiscontinuity => 11
  | .queueClosed => 12
  | .bankActive => 13
  | .noBank => 14
  | .noHold => 15
  | .notArmed => 16
  | .conditionPresent => 17
  | .safeStopActive => 18
  | .refusedSafe => 19
  | .refusedFault => 20
  | .refusedMode => 21
  | .refusedLink => 22
  | .refusedEngaged => 23
  | .miswired => 24

def LinkState.value (x : LinkState) : Nat :=
  match x with
  | .down => 0
  | .up => 1
  | .lost => 2

def ClockState.value (x : ClockState) : Nat :=
  match x with
  | .halted => 0
  | .running => 1

/-- A DEMAND's mode byte. -/
def DemandOrder.value (x : DemandOrder) : Nat :=
  match x with
  | .safe => 0
  | .parked => 1
  | .free => 2
  | .speed _ => 3
  | .road _ => 4

/-- A DEMAND's last field: the force in ROAD, the virtual speed in SPEED, 0 in other modes. -/
def DemandOrder.amount (x : DemandOrder) : Int :=
  match x with
  | .safe | .parked | .free => 0
  | .speed v => v
  | .road f => f

/-- A DEMAND's flags byte: bit 0 brake ON, bit 1 saturated. -/
def Demand.flags (d : Demand) : Nat := (if d.brakeOn then 1 else 0) + (if d.saturated then 2 else 0)

/-- A body's bytes, where the manual lays them out (spec/12, Message layouts); the others are held by their contents
alone (log 9). -/
def Body.bytes (b : Body) : Option (List Byte) :=
  match b with
  | .header => some []
  | .hello k x y n => some [byteOf k.val, byteOf x.value, byteOf y.value, byteOf n]
  | .welcome k x y n limit timeout age =>
    some
      ([byteOf k.val, byteOf x.value, byteOf y.value, byteOf n] ++ bytes16 limit ++
        [byteOf timeout, byteOf age])
  | .demand d => some ([byteOf d.axis.val, byteOf d.order.value, byteOf d.flags] ++ bytes16 d.order.amount)
  | _ => none

/-- The answer as it is sent: address, kind, length, header, body, check (R191, R192, R195). -/
def Answer.bytes (a : Answer) : Option (List Byte) :=
  a.body.bytes.map fun body =>
    let payload := byteOf a.code.value :: (bytes32 a.frame ++ body)
    let covered := a.address :: a.kind :: byteOf payload.length :: payload
    covered ++ bytes16 (crc covered).toNat

end Sys2Proof.Machine
end

