-- ==== Sys2Proof/Machine/Axes.lean ====
section
/-!
DEFINITION. Axis Synchronisation's requests (R77 to R90): SET_AXIS, SET_SYNC, READ_AXIS.
-/
namespace Sys2Proof.Machine

/-- The settings SET AXIS's answer shows for the named axis (R77); the header alone where no axis is named. -/
def axisSettingsBody (s : State) (n : Option Axis) : Body :=
  match n with
  | none => .header
  | some i =>
    .axisSettings (s.axis i).mode (s.axis i).forceLimit (s.axis i).rollerMass (s.axis i).group (s.axis i).sync

/-- An outcome of SET AXIS. -/
def axisSettingsServed (s : State) (code : Code) (n : Option Axis) : Served :=
  { state := s, code := code, body := axisSettingsBody s n }

/-- An accepted SET AXIS (R78): the three values set, the effective limit recomputed (R152), and for a mode other than ROAD
the axis released and its directive cancelled. -/
def applyAxis (s : State) (n : Axis) (mode : AxisMode) (forceLimit rollerMass : Int) : State :=
  let t := refreshLimit
    (s.setAxis n { s.axis n with mode := mode, forceLimit := forceLimit, rollerMass := rollerMass }) n
  if mode = .road then t else cancelDirective (releaseAxis t n) n

/-- SET AXIS (R77). -/
def setAxisRequest (p : Payload AxisFields) (s : State) : Served :=
  match p with
  | .misfit => axisSettingsServed s .badParam none
  | .fits r =>
    if s.runActive then axisSettingsServed s .runActive (axisOf r.axis)
    else
      match axisOf r.axis, r.mode with
      | some n, some mode =>
        if InRange 1000 12000 r.forceLimit ∧ InRange 0 2000 r.rollerMass then
          axisSettingsServed (applyAxis s n mode r.forceLimit r.rollerMass) .ok (some n)
        else axisSettingsServed s .badRange (some n)
      | n, _ => axisSettingsServed s .badParam n

/-- SET_AXIS. -/
def execSetAxis (src : Sender) (p : Payload AxisFields) (s : State) : Host.Outcome State Fault Refusal :=
  .next (takeStation src 0x40#8 (setAxisRequest p) s)

/-- An outcome of SET SYNC: the seven settings in force. -/
def syncServed (s : State) (code : Code) : Served := { state := s, code := code, body := .sync s.sync }

/-- Every setting lies in its range and W_slip exceeds W_lock (R79). -/
abbrev SyncInRange (c : SyncSettings) : Prop :=
  InRange 5 500 c.lockWindow ∧ InRange (c.lockWindow + 1) 2000 c.slipLimit ∧
  (1 ≤ c.lockConfirm ∧ c.lockConfirm ≤ 255) ∧ (1 ≤ c.slipPersist ∧ c.slipPersist ≤ 255) ∧
  InRange 0 1000 c.gain ∧ InRange 0 12000 c.acquiringAuthority ∧ InRange 0 12000 c.lockedAuthority

/-- SET SYNC (R79). -/
def setSyncRequest (p : Payload SyncSettings) (s : State) : Served :=
  match p with
  | .misfit => syncServed s .badParam
  | .fits c =>
    if s.runActive then syncServed s .runActive
    else if SyncInRange c then syncServed { s with sync := c } .ok
    else syncServed s .badRange

/-- SET_SYNC. -/
def execSetSync (src : Sender) (p : Payload SyncSettings) (s : State) : Host.Outcome State Fault Refusal :=
  .next (takeStation src 0x41#8 (setSyncRequest p) s)

/-- READ AXIS's contents (R90). -/
def axisReport (s : State) (n : Axis) : AxisReport :=
  { record := s.axis n, reference := reference s n, groupAcceleration := groupAcceleration s n
    correction := correction s n, pending := (s.slot n).pending, outcome := (s.slot n).outcome
    outcomeFrame := (s.slot n).outcomeFrame, link := (s.link n).state, limit := (s.link n).limit }

/-- READ AXIS (R90). -/
def readAxisRequest (p : Payload Nat) (s : State) : Served :=
  match p with
  | .misfit => refuse s .badParam .header
  | .fits i =>
    match axisOf i with
    | none => refuse s .badParam .header
    | some n => { state := s, code := .ok, body := .axis (axisReport s n) }

/-- READ_AXIS. -/
def execReadAxis (src : Sender) (p : Payload Nat) (s : State) : Host.Outcome State Fault Refusal :=
  .next (takeStation src 0x42#8 (readAxisRequest p) s)

end Sys2Proof.Machine
end

