-- ==== Sys2Proof/Machine/Directives.lean ====
section
/-!
DEFINITION. The Directive Unit's requests (R97, R102): COUPLE, SET_GUARDS.
-/
namespace Sys2Proof.Machine

/-- The result code of a refused placement (R97). -/
def DirectiveOutcome.code (o : DirectiveOutcome) : Code :=
  match o with
  | .refusedSafe => .refusedSafe
  | .refusedFault => .refusedFault
  | .refusedMode => .refusedMode
  | .refusedLink => .refusedLink
  | .refusedEngaged => .refusedEngaged
  | .none | .deferred | .applied | .redundant | .superseded | .cancelled => .ok

/-- COUPLE's contents for an axis (R97), with the outcome given to a displaced directive. DESIGN CHOICE (log 27): R97 gives
the earliest frame for the pending directive's action; where a refusal leaves the axis with none, the frame is absent. -/
def coupleReport (s : State) (n : Axis) (superseded : Option DirectiveOutcome) : CoupleReport :=
  { pending := (s.slot n).pending, outcome := (s.slot n).outcome, outcomeFrame := (s.slot n).outcomeFrame
    superseded := superseded
    earliest := match (s.slot n).pending with
      | some d => shownFrame (earliestFrame s n d.action)
      | none => .absent }

/-- An outcome of COUPLE; the header alone where no axis is named. -/
def coupleServed (s : State) (code : Code) (n : Option Axis) (superseded : Option DirectiveOutcome) : Served :=
  { state := s, code := code
    body := match n with
      | some i => .couple (coupleReport s i superseded)
      | none => .header }

/-- COUPLE's checks 2 and 3 on its action (R97): the action, or the code of the first that fails. -/
def coupleAction (a : CoupleAction) : Except Code Action :=
  match a with
  | .engage (some g) =>
    match groupOf g with
    | some group => .ok (.engage group)
    | none => .error .badRange
  | .release none => .ok .release
  | .engage none | .release (some _) | .other => .error .badParam

/-- COUPLE (R97). -/
def coupleRequest (p : Payload CoupleFields) (s : State) : Served :=
  match p with
  | .misfit => coupleServed s .badParam none none
  | .fits c =>
    match axisOf c.axis with
    | none => coupleServed s .badParam none none
    | some n =>
      match coupleAction c.action with
      | .error code => coupleServed s code (some n) none
      | .ok action =>
        match placementRefusal s n action with
        | some o => coupleServed (placeDirective s n action) o.code (some n) none
        | none =>
          coupleServed (placeDirective s n action) .ok (some n)
            (if (s.slot n).pending.isSome then some .superseded else none)

/-- COUPLE. -/
def execCouple (src : Sender) (p : Payload CoupleFields) (s : State) : Host.Outcome State Fault Refusal :=
  .next (takeStation src 0x44#8 (coupleRequest p) s)

/-- The five settings in force. -/
def guardsServed (s : State) (code : Code) : Served := { state := s, code := code, body := .guards s.directives.guards }

/-- Every guard lies in its range and tCycleMin is at least tLockMin + tFreeMin (R102). -/
abbrev GuardsInRange (g : GuardSettings) : Prop :=
  g.lockMin ≤ 60000 ∧ g.freeMin ≤ 60000 ∧ g.cycleMin ≤ 60000 ∧ g.staggerSame ≤ 1000 ∧ g.staggerOther ≤ 1000 ∧
  g.lockMin + g.freeMin ≤ g.cycleMin

/-- SET GUARDS (R102). -/
def setGuardsRequest (p : Payload GuardSettings) (s : State) : Served :=
  match p with
  | .misfit => guardsServed s .badParam
  | .fits g =>
    if s.runActive then guardsServed s .runActive
    else if GuardsInRange g then guardsServed { s with directives := { s.directives with guards := g } } .ok
    else guardsServed s .badRange

/-- SET_GUARDS. -/
def execSetGuards (src : Sender) (p : Payload GuardSettings) (s : State) : Host.Outcome State Fault Refusal :=
  .next (takeStation src 0x45#8 (setGuardsRequest p) s)

end Sys2Proof.Machine
end

