-- ==== Sys2Proof/Machine/Faults.lean ====
section
/-!
DEFINITION. The Fault Unit's requests and the SAFE-STOP line (R170 to R176): READ_FAULT, CLEAR_FAULT, ACK_SAFE_STOP,
SAFE_STOP_ASSERT, SAFE_STOP_DEASSERT.
-/
namespace Sys2Proof.Machine

/-- The contents of READ FAULT's answer (R170). -/
def latchServed (s : State) (n : Axis) (code : Code) : Served :=
  { state := s, code := code, body := .latch (s.latch n) (s.link n).state (s.axis n).driveStatus }

/-- A set latch armed for one clear (R170). -/
def armLatch (s : State) (n : Axis) : State :=
  if (s.latch n).state = .set then s.setLatch n { s.latch n with armed := true } else s

/-- READ FAULT (R170). -/
def readFaultRequest (p : Payload Nat) (s : State) : Served :=
  match p with
  | .misfit => refuse s .badParam .header
  | .fits i =>
    match axisOf i with
    | none => refuse s .badParam .header
    | some n => latchServed (armLatch s n) n .ok

/-- READ_FAULT. -/
def execReadFault (src : Sender) (p : Payload Nat) (s : State) : Host.Outcome State Fault Refusal :=
  .next (takeStation src 0x54#8 (readFaultRequest p) s)

/-- An accepted CLEAR FAULT (R172): the latch CLEAR, the axis UNCOUPLED with no group (R89), its hold removed (R68). -/
def clearFault (s : State) (n : Axis) : State :=
  let t := s.setLatch n { FaultLatch.atReset with lastClear := some s.clock.f }
  (t.setAxis n ((t.axis n).uncouple .uncoupled)).setHold (.axis n) none

/-- CLEAR FAULT (R171). -/
def clearFaultRequest (p : Payload Nat) (s : State) : Served :=
  match p with
  | .misfit => refuse s .badParam .header
  | .fits i =>
    match axisOf i with
    | none => refuse s .badParam .header
    | some n =>
      if ¬ ((s.latch n).state = .set ∧ (s.latch n).armed = true) then latchServed s n .notArmed
      else if (s.link n).state ≠ .up ∨ (s.axis n).driveStatus = some .fault then latchServed s n .conditionPresent
      else latchServed (clearFault s n) n .ok

/-- CLEAR_FAULT. -/
def execClearFault (src : Sender) (p : Payload Nat) (s : State) : Host.Outcome State Fault Refusal :=
  .next (takeStation src 0x55#8 (clearFaultRequest p) s)

/-- An outcome of ACK SAFE STOP (R176). -/
def safetyServed (s : State) (code : Code) : Served :=
  { state := s, code := code, body := .safety s.safety s.safeStopAsserted }

/-- ACK SAFE STOP (R176). -/
def ackSafeStopRequest (p : Payload Unit) (s : State) : Served :=
  match p with
  | .misfit => safetyServed s .badParam
  | .fits _ =>
    match s.safety with
    | .safeLatched => safetyServed { s with safety := .normal } .ok
    | .safeAsserted => safetyServed s .conditionPresent
    | .normal => safetyServed s .refusedState

/-- ACK_SAFE_STOP. -/
def execAckSafeStop (src : Sender) (p : Payload Unit) (s : State) : Host.Outcome State Fault Refusal :=
  .next (takeStation src 0x58#8 (ackSafeStopRequest p) s)

/-- The neighbours' reactions to a SAFE-STOP assertion, in their order (R174): the run aborted (R55), every coupled axis
released (R87), every pending directive cancelled (R112). -/
def safeStopReactions (s : State) : State :=
  let t := if s.runActive then enterAborted s .safeStop else s
  Sys2Proof.axes.foldl cancelDirective (Sys2Proof.axes.foldl releaseAxis t)

/-- A recognised assertion (R174). -/
def assertSafeStop (s : State) : State :=
  let t := { s with safety := .safeAsserted, safeStopAsserted := true }
  if s.safety = .safeAsserted then t else safeStopReactions t

/-- SAFE_STOP_ASSERT. -/
def execSafeStopAssert (s : State) : Host.Outcome State Fault Refusal :=
  let t := settle s
  .next (if t.heldInReset then t else assertSafeStop t)

/-- A recognised deassertion (R175). -/
def deassertSafeStop (s : State) : State :=
  { s with
    safety := if s.safety = .safeAsserted then .safeLatched else s.safety
    safeStopAsserted := false }

/-- SAFE_STOP_DEASSERT. -/
def execSafeStopDeassert (s : State) : Host.Outcome State Fault Refusal :=
  let t := settle s
  .next (if t.heldInReset then t else deassertSafeStop t)

end Sys2Proof.Machine
end

