-- ==== Sys2Proof/Machine/Links.lean ====
section
/-!
DEFINITION. The drive links: SET_LINKS (R158), HELLO (R149), POLL (R153), and the POLLs whose sync update locks the axis or
brings its slip to the persist count: LOCK_ACQUIRED, SLIP_PERSIST (R83; log 5).
-/
namespace Sys2Proof.Machine

/-- The link report and the two settings (R158, R163). -/
def linksServed (s : State) (code : Code) : Served := { state := s, code := code, body := .links s.linkSettings s.links }

/-- The two settings' ranges (R158). -/
abbrev LinksInRange (c : LinkSettings) : Prop := (2 ≤ c.timeout ∧ c.timeout ≤ 200) ∧ c.maxSampleAge ≤ 7

/-- SET LINKS (R158). -/
def setLinksRequest (p : Payload LinkSettings) (s : State) : Served :=
  match p with
  | .misfit => linksServed s .badParam
  | .fits c =>
    if s.runActive then linksServed s .runActive
    else if LinksInRange c then linksServed { s with linkSettings := c } .ok
    else linksServed s .badRange

/-- SET_LINKS. -/
def execSetLinks (src : Sender) (p : Payload LinkSettings) (s : State) : Host.Outcome State Fault Refusal :=
  .next (takeStation src 0x50#8 (setLinksRequest p) s)

/-! ## HELLO -/

/-- A refused HELLO: its answer's body is the first four fields of a WELCOME's (R149, R200). -/
def helloRefused (s : State) (n : Axis) (code : Code) : Served :=
  { state := s, code := code, body := .hello n (s.link n).state s.clock.state s.clock.n }

/-- An accepted HELLO (R150). -/
def welcome (s : State) (n : Axis) (rating : Int) : State :=
  refreshLimit (s.setLink n { s.link n with state := .up, rating := some rating, lastPoll := s.clock.f }) n

/-- WELCOME (R150). -/
def welcomeServed (s : State) (n : Axis) : Served :=
  { state := s, code := .ok, kind := some 0x74#8
    body :=
      .welcome n (s.link n).state s.clock.state s.clock.n (effectiveLimit s n) s.linkSettings.timeout
        s.linkSettings.maxSampleAge }

/-- HELLO on DLn (R149). -/
def helloRequest (n : Axis) (payload : List Byte) (s : State) : Served :=
  match helloFields payload with
  | none => helloRefused s n .badParam
  | some (a, rating) =>
    if 4 ≤ a then helloRefused s n .badParam
    else if a ≠ n.val then helloRefused (miswire s n) n .miswired
    else if InRange 1000 20000 rating then welcomeServed (welcome s n rating) n
    else helloRefused s n .badParam

/-- HELLO. -/
def execHello (n dest : Axis) (payload : List Byte) (s : State) : Host.Outcome State Fault Refusal :=
  .next (takeDrive n dest 0x70#8 (helloRequest n payload) s)

/-! ## POLL -/

/-- REJOIN (R153, R195). -/
def rejoinServed (s : State) (n : Axis) : Served :=
  { state := s, code := .ok, kind := some 0x73#8, body := .rejoin n (s.link n).state }

/-- A temperature outside −40..125 is dropped (R155). -/
def keptTemperature (t : Option Int) : Option Int := t.filter fun d => decide (InRange (-40) 125 d)

/-- The sample's class on DLn (R155). -/
def sampleClass (s : State) (n : Axis) (p : PollFields) : SampleClass :=
  classify s.clock.f (s.link n).lastAccepted s.linkSettings.maxSampleAge p.sampleFrame p.speed

/-- Steps 1 to 3 of R156: the last-poll frame, the class, the delivery. -/
def takeSample (s : State) (n : Axis) (p : PollFields) : State :=
  let cls := sampleClass s n p
  let t := s.setLink n
    { s.link n with
      lastPoll := s.clock.f
      lastAccepted := if cls = .accepted then some p.sampleFrame else (s.link n).lastAccepted }
  deliver t n cls p (keptTemperature p.temperature)

/-- Steps 4 and 5 of R156: the demand composed, and the record's saturated flag with it (R145). -/
def demandServed (s : State) (n : Axis) : Served :=
  let d := demandFor s n
  { state := s.setAxis n { s.axis n with saturated := d.saturated }, code := .ok, kind := some 0x72#8
    body := .demand d }

/-- POLL on DLn (R153, R154, R156). -/
def pollRequest (n : Axis) (payload : List Byte) (s : State) : Served :=
  if (s.link n).state ≠ .up then rejoinServed s n
  else
    match pollFields payload with
    | none => refuse s .badParam .header
    | some p => if p.axis ≠ n then rejoinServed (miswire s n) n else demandServed (takeSample s n p) n

/-- POLL's effect as a command. -/
def takePoll (n dest : Axis) (payload : List Byte) (s : State) : State :=
  takeDrive n dest 0x71#8 (pollRequest n payload) s

/-- POLL. -/
def execPoll (n dest : Axis) (payload : List Byte) (s : State) : Host.Outcome State Fault Refusal :=
  .next (takePoll n dest payload s)

/-- The axis passes from ACQUIRING to LOCKED. -/
def lockAcquired (n : Axis) (before after : State) : Bool :=
  decide ((before.axis n).sync = .acquiring ∧ (after.axis n).sync = .locked)

/-- LOCK_ACQUIRED (R83): the POLL, where it brings the lock; otherwise this is not that event. -/
def execLockAcquired (n dest : Axis) (payload : List Byte) (s : State) : Host.Outcome State Fault Refusal :=
  .next (if lockAcquired n (settle s) (takePoll n dest payload s) then takePoll n dest payload s else s)

/-- A coupled axis faults with first cause SLIP. -/
def slipPersisted (n : Axis) (before after : State) : Bool :=
  decide
    (((before.axis n).sync = .locked ∨ (before.axis n).sync = .slipping) ∧ (after.axis n).sync = .faulted ∧
      (before.latch n).state = .clear ∧ (after.latch n).firstCause = some .slip)

/-- SLIP_PERSIST (R83): the POLL, where its slip count reaches C_slip; otherwise this is not that event. -/
def execSlipPersist (n dest : Axis) (payload : List Byte) (s : State) : Host.Outcome State Fault Refusal :=
  .next (if slipPersisted n (settle s) (takePoll n dest payload s) then takePoll n dest payload s else s)

end Sys2Proof.Machine
end

