-- ==== Sys2Proof/Machine/LossRoad.lean ====
section
/-!
DEFINITION. The requests of the Loss Compensation Unit and the Road-Load Unit: SET_BANDS (R117), SET_LOSS (R124), LOAD_BANK
(R130), SELECT_BANK (R132, R133).
-/
namespace Sys2Proof.Machine

/-- The loss report (R127); its F stands in the header. -/
def lossServed (s : State) (code : Code) : Served := { state := s, code := code, body := .loss s.loss }

/-- TH's range and the restriction on the thresholds (R117). -/
abbrev BandsInRange (c : BandSettings) : Prop :=
  InRange 1 15 c.th ∧ -40 ≤ c.ta ∧ c.ta + c.th ≤ c.tb ∧ c.tb + c.th ≤ c.tc ∧ c.tc + c.th ≤ 125

/-- SET BANDS (R117): no band moves (R118). -/
def setBandsRequest (p : Payload BandSettings) (s : State) : Served :=
  match p with
  | .misfit => lossServed s .badParam
  | .fits c =>
    if BandsInRange c then lossServed { s with loss := { s.loss with settings := c } } .ok else lossServed s .badRange

/-- SET_BANDS. -/
def execSetBands (src : Sender) (p : Payload BandSettings) (s : State) : Host.Outcome State Fault Refusal :=
  .next (takeStation src 0x48#8 (setBandsRequest p) s)

/-- Check 2 of R124. -/
abbrev LossItemsWellFormed (items : List LossItem) : Prop :=
  items.length ≤ 16 ∧ (∀ i ∈ items, i.axis < 4 ∧ i.band < 4) ∧ (items.map fun i => (i.axis, i.band)).Nodup

/-- Check 3 of R124. -/
abbrev LossItemsInRange (items : List LossItem) : Prop := ∀ i ∈ items, InRange 0 500 i.c0 ∧ InRange 0 5000 i.c1

/-- One item written into the entry it names. -/
def writeLoss (table : Four (Four LossEntry)) (i : LossItem) : Four (Four LossEntry) :=
  match axisOf i.axis, axisOf i.band with
  | some n, some k => table.set n ((table.get n).set k { c0 := i.c0, c1 := i.c1 })
  | _, _ => table

/-- SET LOSS (R124). -/
def setLossRequest (p : Payload (List LossItem)) (s : State) : Served :=
  match p with
  | .misfit => lossServed s .badParam
  | .fits items =>
    if ¬ LossItemsWellFormed items then lossServed s .badParam
    else if ¬ LossItemsInRange items then lossServed s .badRange
    else lossServed { s with loss := { s.loss with table := items.foldl writeLoss s.loss.table } } .ok

/-- SET_LOSS. -/
def execSetLoss (src : Sender) (p : Payload (List LossItem)) (s : State) : Host.Outcome State Fault Refusal :=
  .next (takeStation src 0x49#8 (setLossRequest p) s)

/-- The bank report (R146). -/
def banksServed (s : State) (code : Code) : Served :=
  { state := s, code := code, body := .banks s.road.bankA s.road.bankB s.road.pendingSelection s.schedule.state }

/-- The coefficients' ranges (R129). -/
abbrev CoefficientsInRange (c : Coefficients) : Prop :=
  InRange 0 5000 c.f0 ∧ InRange 0 50000 c.f1 ∧ InRange 0 100000 c.f2 ∧ InRange 500 5000 c.mass ∧
  InRange 0 100 c.frontShare

/-- LOAD BANK (R130). -/
def loadBankRequest (p : Payload BankFields) (s : State) : Served :=
  match p with
  | .misfit => banksServed s .badParam
  | .fits r =>
    match r.bank with
    | none => banksServed s .badParam
    | some name =>
      if (s.road.bank name).activeCoefficients.isSome then banksServed s .bankActive
      else if CoefficientsInRange r.coefficients then
        banksServed { s with road := s.road.setBank name (.loaded r.coefficients) } .ok
      else banksServed s .badRange

/-- LOAD_BANK. -/
def execLoadBank (src : Sender) (p : Payload BankFields) (s : State) : Host.Outcome State Fault Refusal :=
  .next (takeStation src 0x4C#8 (loadBankRequest p) s)

/-- A bank that was ACTIVE becomes LOADED. -/
def Bank.standDown (b : Bank) : Bank :=
  match b with
  | .active c => .loaded c
  | .loaded c => .loaded c
  | .empty => .empty

/-- An immediate selection (R132). -/
def selectNow (s : State) (name : BankName) : Served :=
  match s.road.bank name with
  | .active _ => banksServed s .ok
  | .empty => banksServed s .noBank
  | .loaded c =>
    banksServed
      { s with
        road := (s.road.setBank name (.active c)).setBank (otherBank name) (s.road.bank (otherBank name)).standDown }
      .ok

/-- A selection during a run (R133). -/
def selectLater (s : State) (name : BankName) : Served :=
  banksServed
    { s with
      road :=
        { s.road with
          pendingSelection := if (s.road.bank name).activeCoefficients.isSome then none else some name } }
    .ok

/-- SELECT BANK (R132, R133). -/
def selectBankRequest (p : Payload (Option BankName)) (s : State) : Served :=
  match p with
  | .misfit => banksServed s .badParam
  | .fits none => banksServed s .badParam
  | .fits (some name) =>
    match s.schedule.state with
    | .idle | .ended | .aborted => selectNow s name
    | .armed | .running | .dwell => selectLater s name
    | .stopping => banksServed s .refusedState

/-- SELECT_BANK. -/
def execSelectBank (src : Sender) (p : Payload (Option BankName)) (s : State) : Host.Outcome State Fault Refusal :=
  .next (takeStation src 0x4D#8 (selectBankRequest p) s)

end Sys2Proof.Machine
end

