-- ==== Sys2Proof/Machine/Holds.lean ====
section
/-!
DEFINITION. The Hold Set's requests (R60 to R66): HOLD, RELEASE, RELEASE_HOLDER.
-/
namespace Sys2Proof.Machine

/-- A hold entry as an answer shows it (R72). -/
def shownHold (who : Holder) (e : HoldEntry) : ShownHold :=
  { holder := who, scope := e.scope, reason := e.reason, placed := e.placed, expiry := shownFrame e.expiry }

/-- An outcome of HOLD: the sender's entry as it stands. -/
def heldServed (s : State) (src : Sender) (code : Code) : Served :=
  { state := s, code := code, body := .held ((s.holds.get (.external src)).map (shownHold (.external src))) }

/-- HOLD (R61, R62). -/
def holdRequest (src : Sender) (p : Payload HoldFields) (s : State) : Served :=
  match p with
  | .misfit => heldServed s src .badParam
  | .fits h =>
    match h.scope with
    | none => heldServed s src .badParam
    | some scope =>
      if ∃ d ∈ h.duration, ¬ (1 ≤ d ∧ d ≤ 60000) then heldServed s src .badRange
      else
        heldServed
          (s.setHold (.external src)
            (some
              { scope := scope, reason := h.reason, placed := s.clock.f
                expiry := h.duration.map fun d => s.clock.f + d }))
          src .ok

/-- HOLD. -/
def execHold (src : Sender) (p : Payload HoldFields) (s : State) : Host.Outcome State Fault Refusal :=
  .next (takeStation src 0x30#8 (holdRequest src p) s)

/-- An outcome of RELEASE or RELEASE HOLDER: the number of entries removed (R66, R72). -/
def removedServed (s : State) (code : Code) (count : Nat) : Served := { state := s, code := code, body := .removed count }

/-- A named external holder's entry removed, or NO_HOLD (R64, R66). -/
def removeExternal (s : State) (who : Sender) : Served :=
  if (s.holds.get (.external who)).isSome then removedServed (s.setHold (.external who) none) .ok 1
  else removedServed s .noHold 0

/-- RELEASE (R64). -/
def releaseRequest (src : Sender) (p : Payload Unit) (s : State) : Served :=
  match p with
  | .misfit => removedServed s .badParam 0
  | .fits _ => removeExternal s src

/-- RELEASE. -/
def execRelease (src : Sender) (p : Payload Unit) (s : State) : Host.Outcome State Fault Refusal :=
  .next (takeStation src 0x31#8 (releaseRequest src p) s)

/-- How many external entries the set holds. -/
def externalCount (s : State) : Nat :=
  s.holds.supervisor.toList.length + s.holds.sampler.toList.length + s.holds.driverAid.toList.length

/-- Every external entry removed (R66, R73). -/
def clearExternal (s : State) : State :=
  { s with holds := { s.holds with supervisor := none, sampler := none, driverAid := none } }

/-- RELEASE HOLDER (R66). -/
def releaseHolderRequest (p : Payload HolderTarget) (s : State) : Served :=
  match p with
  | .misfit => removedServed s .badParam 0
  | .fits target =>
    match target with
    | .one (.external who) => removeExternal s who
    | .one (.axis n) =>
      removedServed s (if (s.holds.get (.axis n)).isSome then .conditionPresent else .noHold) 0
    | .all => removedServed (clearExternal s) .ok (externalCount s)
    | .other => removedServed s .badParam 0

/-- RELEASE_HOLDER. -/
def execReleaseHolder (src : Sender) (p : Payload HolderTarget) (s : State) : Host.Outcome State Fault Refusal :=
  .next (takeStation src 0x32#8 (releaseHolderRequest p) s)

end Sys2Proof.Machine
end

