-- ==== Sys2Proof/Machine/Queue.lean ====
section
/-!
DEFINITION. The Segment Queue's requests (R23 to R32): APPEND, LOAD_BLOCK, FLUSH.
-/
namespace Sys2Proof.Machine

/-- The trial values a block is checked against (R24). -/
structure Trial where
  expected : Nat
  tail : Int
  closed : Bool
  deriving DecidableEq, Repr

/-- The record checks a to f of R24, in order: the first that fails, or none. -/
def recordRefusal (t : Trial) (r : RawRecord) : Option Code :=
  if (crc r.covered).toNat ≠ r.check then some .badCheck
  else if ¬ RecordWellFormed r then some .badParam
  else if ¬ RecordInRange r then some .badRange
  else if t.closed then some .queueClosed
  else if r.number ≠ t.expected then some .outOfSequence
  else if r.kindBits ≠ 1 ∧ t.tail ≠ 0 then some .speedDiscontinuity
  else none

/-- The trial values after a record that passes. -/
def Trial.after (t : Trial) (g : Segment) : Trial :=
  { expected := numberAfter t.expected, tail := g.endSpeed, closed := decide (g.kind = .closing) }

/-- A block's records checked in order, from a position (R24): the first failure with its position, or the segments and
the trial values after the last. -/
def checkRecords (t : Trial) (position : Nat) (records : List RawRecord) : Except (Code × Nat) (List Segment × Trial) :=
  match records with
  | [] => .ok ([], t)
  | r :: rest =>
    match recordRefusal t r with
    | some code => .error (code, position)
    | none =>
      match checkRecords (t.after (segmentOf r)) (position + 1) rest with
      | .ok (segments, last) => .ok (segmentOf r :: segments, last)
      | .error e => .error e

/-- The queue values of an answer (R26). -/
def queueReport (s : State) : QueueReport :=
  { count := s.queue.records.length, expected := s.queue.expected, tailSpeed := tailSpeed s, closed := s.queue.closed
    low := s.queue.low }

/-- An outcome of APPEND or LOAD BLOCK. -/
def queueServed (s : State) (code : Code) (position : Nat) : Served :=
  { state := s, code := code, body := .queue position (queueReport s) }

/-- An accepted block (R25). -/
def acceptBlock (s : State) (segments : List Segment) (last : Trial) : State :=
  { s with
    queue :=
      { s.queue with
        records := s.queue.records ++ segments
        expected := last.expected
        closed := s.queue.closed || last.closed }.withLow }

/-- The states in which records are taken (R23, check 2). -/
def takesRecords (x : ScheduleState) : Bool :=
  match x with
  | .idle | .armed | .running | .dwell => true
  | .stopping | .ended | .aborted => false

/-- The checks of R23 after the sender's, on the records walked from the message, or none where they do not walk. -/
def blockRequest (records : Option (List RawRecord)) (s : State) : Served :=
  if takesRecords s.schedule.state = false then queueServed s .refusedState 0
  else if s.queue.closed then queueServed s .queueClosed 0
  else
    match records with
    | none => queueServed s .badParam 0
    | some rs =>
      if Config.queueCapacity - s.queue.records.length < rs.length then queueServed s .full 0
      else
        match checkRecords { expected := s.queue.expected, tail := tailSpeed s, closed := false } 1 rs with
        | .error (code, position) => queueServed s code position
        | .ok (segments, last) => queueServed (acceptBlock s segments last) .ok 0

/-- APPEND (R27): exactly one record. -/
def appendRequest (payload : List Byte) (s : State) : Served := blockRequest (walkRecords 1 payload) s

/-- LOAD BLOCK (R23). -/
def loadBlockRequest (payload : List Byte) (s : State) : Served := blockRequest (blockRecords payload) s

/-- APPEND. -/
def execAppend (src : Sender) (payload : List Byte) (s : State) : Host.Outcome State Fault Refusal :=
  .next (takeStation src 0x20#8 (appendRequest payload) s)

/-- LOAD_BLOCK. -/
def execLoadBlock (src : Sender) (payload : List Byte) (s : State) : Host.Outcome State Fault Refusal :=
  .next (takeStation src 0x21#8 (loadBlockRequest payload) s)

/-- FLUSH (R30). A misfitting one removes nothing and shows 0 (log 25). -/
def flushRequest (p : Payload Unit) (s : State) : Served :=
  match p with
  | .misfit => { state := s, code := .badParam, body := .flushed 0 (queueReport s) }
  | .fits _ =>
    { state := flushQueue s, code := .ok, body := .flushed s.queue.records.length (queueReport (flushQueue s)) }

/-- FLUSH. -/
def execFlush (src : Sender) (p : Payload Unit) (s : State) : Host.Outcome State Fault Refusal :=
  .next (takeStation src 0x22#8 (flushRequest p) s)

end Sys2Proof.Machine
end

