-- ==== Sys2Proof/Machine/Run.lean ====
section
/-!
DEFINITION. The Schedule Engine's requests (R35 to R53): START_RUN, ABORT_RUN, CLOSE_RUN, SET_RUN.
-/
namespace Sys2Proof.Machine

/-- The body of an answer that shows the schedule state. -/
def scheduleServed (s : State) (code : Code) : Served := { state := s, code := code, body := .schedule s.schedule.state }

/-- Some axis is in mode ROAD. -/
def someRoad (s : State) : Bool := Sys2Proof.axes.any fun i => decide ((s.axis i).mode = .road)

/-- An accepted START RUN (R36): the run data set, the run record cleared (R180), the deviation counter 0 (R189). -/
def armRun (s : State) : State :=
  { s with
    schedule :=
      { s.schedule with
        state := .armed, active := none, virtualSpeed := 0, distance := 0, dwellCount := 0, totalDwell := 0
        startFrame := none, runFrame := 0, stopCause := none, currentPhase := none }
    record := { RunRecord.atReset with state := .armed }
    trace := { s.trace with deviation := 0 } }

/-- START RUN (R35). -/
def startRunRequest (p : Payload Unit) (s : State) : Served :=
  match p with
  | .misfit => scheduleServed s .badParam
  | .fits _ =>
    if s.schedule.state ≠ .idle then scheduleServed s .refusedState
    else if s.clock.state ≠ .running then scheduleServed s .clockHalted
    else if s.safety ≠ .normal then scheduleServed s .safeStopActive
    else if someRoad s ∧ activeBank s.road = none then scheduleServed s .noBank
    else scheduleServed (armRun s) .ok

/-- START_RUN. -/
def execStartRun (src : Sender) (p : Payload Unit) (s : State) : Host.Outcome State Fault Refusal :=
  .next (takeStation src 0x24#8 (startRunRequest p) s)

/-- ABORT RUN (R48). -/
def abortRunRequest (p : Payload Unit) (s : State) : Served :=
  match p with
  | .misfit => scheduleServed s .badParam
  | .fits _ =>
    match s.schedule.state with
    | .armed => scheduleServed (enterAborted s .abortRequest) .ok
    | .running | .dwell => scheduleServed (enterStopping s .abortRequest) .ok
    | .idle | .stopping | .ended | .aborted => scheduleServed s .refusedState

/-- ABORT_RUN. -/
def execAbortRun (src : Sender) (p : Payload Unit) (s : State) : Host.Outcome State Fault Refusal :=
  .next (takeStation src 0x25#8 (abortRunRequest p) s)

/-- CLOSE RUN (R52). DESIGN CHOICE (log 25): R52 gives the number of records removed for the accepted request alone; the
answer of a refused one shows 0. -/
def closeRunRequest (p : Payload Unit) (s : State) : Served :=
  match p with
  | .misfit => { state := s, code := .badParam, body := .closed s.schedule.state 0 }
  | .fits _ =>
    match s.schedule.state with
    | .ended | .aborted =>
      { state := setScheduleState (flushQueue s) .idle, code := .ok, body := .closed .idle s.queue.records.length }
    | .idle | .armed | .running | .dwell | .stopping =>
      { state := s, code := .refusedState, body := .closed s.schedule.state 0 }

/-- CLOSE_RUN. -/
def execCloseRun (src : Sender) (p : Payload Unit) (s : State) : Host.Outcome State Fault Refusal :=
  .next (takeStation src 0x26#8 (closeRunRequest p) s)

/-- The six settings in force (R53). -/
def runSettingsBody (s : State) : Body :=
  .runSettings s.schedule.dwellLimit s.schedule.stopDeceleration s.schedule.faultPolicy s.queue.lowWaterMark
    s.trace.tolerance s.trace.allowed

/-- An outcome of SET RUN. -/
def runSettingsServed (s : State) (code : Code) : Served := { state := s, code := code, body := runSettingsBody s }

/-- Every setting lies in its range (R53). -/
abbrev RunFieldsInRange (r : RunFields) : Prop :=
  (1 ≤ r.dwellLimit ∧ r.dwellLimit ≤ 60000) ∧ InRange 1 20 r.stopDeceleration ∧ r.lowWaterMark ≤ 63 ∧
  InRange 10 500 r.traceTolerance ∧ (1 ≤ r.allowedDeviation ∧ r.allowedDeviation ≤ 5000)

/-- The six settings taken together (R53), QUEUE LOW recomputed (R22). -/
def applyRunFields (s : State) (r : RunFields) (policy : FaultPolicy) : State :=
  { s with
    schedule :=
      { s.schedule with dwellLimit := r.dwellLimit, stopDeceleration := r.stopDeceleration, faultPolicy := policy }
    queue := { s.queue with lowWaterMark := r.lowWaterMark }.withLow
    trace := { s.trace with tolerance := r.traceTolerance, allowed := r.allowedDeviation } }

/-- SET RUN (R53). -/
def setRunRequest (p : Payload RunFields) (s : State) : Served :=
  match p with
  | .misfit => runSettingsServed s .badParam
  | .fits r =>
    if s.runActive then runSettingsServed s .runActive
    else
      match r.faultPolicy with
      | none => runSettingsServed s .badRange
      | some policy =>
        if RunFieldsInRange r then runSettingsServed (applyRunFields s r policy) .ok else runSettingsServed s .badRange

/-- SET_RUN. -/
def execSetRun (src : Sender) (p : Payload RunFields) (s : State) : Host.Outcome State Fault Refusal :=
  .next (takeStation src 0x27#8 (setRunRequest p) s)

end Sys2Proof.Machine
end

