-- ==== Sys2Proof/Machine/Reads.lean ====
section
/-!
DEFINITION. The reads of the whole part (R186 to R198): READ_RECORD, STATUS, SNAPSHOT, PREVIEW. None changes a state beyond
its port's receiver.
-/
namespace Sys2Proof.Machine

/-- The run summary (R186). -/
def runSummary (s : State) : RunSummary :=
  { state := s.record.state, startFrame := s.schedule.startFrame, runFrames := s.schedule.runFrame
    distance := s.schedule.distance / 3600, totalDwell := s.schedule.totalDwell, endCause := s.schedule.stopCause
    phaseCount := s.record.phases.length, exceptionCount := s.record.exceptions.length
    phaseOverflow := s.record.phaseOverflow, exceptionOverflow := s.record.exceptionOverflow }

/-- An outcome of READ RECORD. -/
def recordServed (s : State) (code : Code) (item : RecordItem) : Served :=
  { state := s, code := code, body := .record (runSummary s) item }

/-- READ RECORD (R187). -/
def readRecordRequest (p : Payload RecordSelector) (s : State) : Served :=
  match p with
  | .misfit => recordServed s .badParam .summaryOnly
  | .fits .other => recordServed s .badParam .summaryOnly
  | .fits .summary => recordServed s .ok .summaryOnly
  | .fits (.phase none) => recordServed s .badParam .summaryOnly
  | .fits (.exception none) => recordServed s .badParam .summaryOnly
  | .fits (.phase (some i)) =>
    if 1 ≤ i ∧ i ≤ 16 then
      recordServed s .ok
        (match s.record.phases[i - 1]? with
          | some e => .phase e
          | none => .absent)
    else recordServed s .badRange .summaryOnly
  | .fits (.exception (some i)) =>
    if 1 ≤ i ∧ i ≤ 32 then
      recordServed s .ok
        (match s.record.exceptions[i - 1]? with
          | some e => .exception e
          | none => .absent)
    else recordServed s .badRange .summaryOnly

/-- READ_RECORD. -/
def execReadRecord (src : Sender) (p : Payload RecordSelector) (s : State) : Host.Outcome State Fault Refusal :=
  .next (takeStation src 0x5C#8 (readRecordRequest p) s)

/-- A read without parameters: a payload is refused with BAD_PARAM (R196 to R198). -/
def readServed (p : Payload Unit) (s : State) (body : Body) : Served :=
  { state := s, body := body
    code := match p with
      | .misfit => .badParam
      | .fits _ => .ok }

/-- STATUS's contents (R196). -/
def statusReport (s : State) : StatusReport :=
  { clock := s.clock.state, n := s.clock.n, schedule := s.schedule.state, queue := queueReport s
    lowWaterMark := s.queue.lowWaterMark, safety := s.safety, safeStopAsserted := s.safeStopAsserted
    holds := holders.filterMap fun who => (s.holds.get who).map (shownHold who)
    links := s.links.map (·.state), faults := s.latches.map (·.state), activeBank := activeBank s.road
    pendingSelection := s.road.pendingSelection }

/-- STATUS (R196). -/
def statusRequest (p : Payload Unit) (s : State) : Served := readServed p s (.status (statusReport s))

/-- STATUS. -/
def execStatus (src : Sender) (p : Payload Unit) (s : State) : Host.Outcome State Fault Refusal :=
  .next (takeStation src 0x60#8 (statusRequest p) s)

/-- The frames left of an active segment: D − k (R34). -/
def framesLeft (a : ActiveSegment) : Nat := a.record.duration - a.elapsed

/-- One axis in SNAPSHOT. -/
def shownAxis (s : State) (n : Axis) : ShownAxis :=
  { measuredSpeed := (s.axis n).measuredSpeed, sync := (s.axis n).sync, fault := decide ((s.latch n).state = .set) }

/-- SNAPSHOT's contents (R197). -/
def snapshotReport (s : State) : SnapshotReport :=
  { runFrame := s.schedule.runFrame, schedule := s.schedule.state
    segment := s.schedule.active.map fun a => (a.record.number, framesLeft a)
    virtualSpeed := s.schedule.virtualSpeed, distance := s.schedule.distance / 3600
    currentPhase := s.schedule.currentPhase
    holds := holders.map fun who =>
      { holder := who, held := (s.holds.get who).map fun e => (e.scope, shownFrame e.expiry) }
    axes := ⟨shownAxis s 0, shownAxis s 1, shownAxis s 2, shownAxis s 3⟩ }

/-- SNAPSHOT (R197). -/
def snapshotRequest (p : Payload Unit) (s : State) : Served := readServed p s (.snapshot (snapshotReport s))

/-- SNAPSHOT. -/
def execSnapshot (src : Sender) (p : Payload Unit) (s : State) : Host.Outcome State Fault Refusal :=
  .next (takeStation src 0x61#8 (snapshotRequest p) s)

/-- A kind and its target speed, without the duration (R57, R198). -/
def SegmentKind.shown (k : SegmentKind) : ShownKind :=
  match k with
  | .ramp target _ => .ramp target
  | .stand _ => .stand
  | .closing => .closing

/-- The active segment in PREVIEW (R57, R198): number, kind, target speed and frames left, and nothing else. -/
def shownActive (a : ActiveSegment) : ShownActive :=
  { number := a.record.number, kind := a.record.kind.shown, framesLeft := framesLeft a }

/-- A pending record in PREVIEW (R198). -/
def shownSegment (g : Segment) : ShownSegment :=
  { number := g.number, kind := g.kind, phase := g.phase, directiveCount := g.directives.length
    autoRelease := g.autoRelease }

/-- PREVIEW (R198): the first records from the head, up to 8. -/
def previewRequest (p : Payload Unit) (s : State) : Served :=
  readServed p s
    (.preview (s.schedule.active.map shownActive) s.queue.records.length ((s.queue.records.take 8).map shownSegment))

/-- PREVIEW. -/
def execPreview (src : Sender) (p : Payload Unit) (s : State) : Host.Outcome State Fault Refusal :=
  .next (takeStation src 0x62#8 (previewRequest p) s)

end Sys2Proof.Machine
end

