-- ==== Sys2Proof/Machine/Clock.lean ====
section
/-!
DEFINITION. The Frame Clock's requests and line timing (R4 to R12): SET_CLOCK, CLOCK_START, CLOCK_HALT, FRAME_MARK_END,
PHASE_LINE_HOLD_END.
-/
namespace Sys2Proof.Machine

/-- The body of a clock answer: the clock state and N; F stands in the header. -/
def clockBody (s : State) : Body := .clock s.clock.state s.clock.n

/-- The clock replaced. -/
def State.withClock (s : State) (c : Clock) : State := { s with clock := c }

/-- A clock request's outcome. -/
def clockServed (s : State) (code : Code) : Served := { state := s, code := code, body := clockBody s }

/-- SET CLOCK (R4). -/
def setClockRequest (p : Payload Nat) (s : State) : Served :=
  match p with
  | .misfit => clockServed s .badParam
  | .fits n =>
    if s.clock.state = .running then clockServed s .refusedState
    else if 9 ≤ n ∧ n ≤ 99 then clockServed (s.withClock { s.clock with n := n }) .ok
    else clockServed s .badRange

/-- SET_CLOCK. -/
def execSetClock (src : Sender) (p : Payload Nat) (s : State) : Host.Outcome State Fault Refusal :=
  .next (takeStation src 0x01#8 (setClockRequest p) s)

/-- CLOCK START (R5). -/
def clockStartRequest (p : Payload Unit) (s : State) : Served :=
  match p with
  | .misfit => clockServed s .badParam
  | .fits _ =>
    if s.clock.state = .halted ∧ s.clock.f < Config.frameLimit then
      clockServed (s.withClock { s.clock with state := .running, position := some 0 }) .ok
    else clockServed s .refusedState

/-- CLOCK_START. -/
def execClockStart (src : Sender) (p : Payload Unit) (s : State) : Host.Outcome State Fault Refusal :=
  .next (takeStation src 0x02#8 (clockStartRequest p) s)

/-- CLOCK HALT (R6, R11). -/
def clockHaltRequest (p : Payload Unit) (s : State) : Served :=
  match p with
  | .misfit => clockServed s .badParam
  | .fits _ =>
    if s.runActive then clockServed s .runActive
    else if s.clock.state = .running then
      clockServed (haltClock s (s.clock.n + 1 - s.clock.position.getD 0)) .ok
    else clockServed s .ok

/-- CLOCK_HALT. -/
def execClockHalt (src : Sender) (p : Payload Unit) (s : State) : Host.Outcome State Fault Refusal :=
  .next (takeStation src 0x03#8 (clockHaltRequest p) s)

/-- FRAME_MARK_END (R9): FRAME MARK returns inactive. -/
def execFrameMarkEnd (s : State) : Host.Outcome State Fault Refusal :=
  let t := settle s
  .next (t.withClock { t.clock with frameMark := false })

/-- PHASE_LINE_HOLD_END (R11): lines held over a halt return inactive; the clock's own frames are not touched. -/
def execPhaseLineHoldEnd (s : State) : Host.Outcome State Fault Refusal :=
  let t := settle s
  .next (if t.clock.lineHold.isSome then clearLines t else t)

end Sys2Proof.Machine
end

