-- ==== Sys2Proof/Machine/Resets.lean ====
section
/-!
DEFINITION. The resets: RESET (R199), RESET_LINE_ASSERT, RESET_LINE_RELEASE, POWER_ON (R13, R178).
-/
namespace Sys2Proof.Machine

/-- The clock's soft reset (R8); FRAME MARK completes its pulse. -/
def Clock.soft (c : Clock) : Clock :=
  { c with state := .halted, f := 0, position := none, lines := ⟨false, false, false, false⟩, lineHold := none }

/-- The queue's (R32). -/
def Queue.soft (q : Queue) : Queue := { q with records := [], expected := 1, closed := false }.withLow

/-- The engine's (R58): the run settings kept. -/
def Schedule.soft (x : Schedule) : Schedule :=
  { Schedule.atReset with
    dwellLimit := x.dwellLimit, stopDeceleration := x.stopDeceleration, faultPolicy := x.faultPolicy }

/-- The hold set's (R73): external entries removed, axis entries kept with placed frame 0. -/
def HoldSet.soft (h : HoldSet) : HoldSet :=
  { supervisor := none, sampler := none, driverAid := none
    axis := h.axis.map fun e => e.map fun x => { x with placed := 0 } }

/-- An axis record's (R93). -/
def AxisRecord.soft (a : AxisRecord) : AxisRecord :=
  { a.uncouple (if a.sync = .faulted then .faulted else .uncoupled) with
    measuredSpeed := none, sampleFrame := none, acceleration := 0, stale := true, saturated := false }

/-- A directive slot's (R115). -/
def DirectiveSlot.soft (x : DirectiveSlot) : DirectiveSlot :=
  { DirectiveSlot.atReset with outcome := if x.pending.isSome then .cancelled else .none }

/-- A drive link's (R165). -/
def DriveLink.soft (l : DriveLink) : DriveLink := { l with lastAccepted := none, lastPoll := 0 }

/-- A fault latch's (R179). -/
def FaultLatch.soft (l : FaultLatch) : FaultLatch :=
  { l with faultFrame := if l.state = .set then some 0 else l.faultFrame, armed := false, lastClear := none }

/-- Every block's soft-reset values as one event (R199). -/
def softReset (s : State) : State :=
  { s with
    clock := s.clock.soft
    boundary := { owed := [], foundActive := false }
    queue := s.queue.soft
    schedule := s.schedule.soft
    holds := s.holds.soft
    axes := s.axes.map AxisRecord.soft
    directives := { s.directives with slots := s.directives.slots.map DirectiveSlot.soft, order := [] }
    road := { s.road with pendingSelection := none }
    links := s.links.map DriveLink.soft
    latches := s.latches.map FaultLatch.soft
    record := .atReset
    trace := { s.trace with deviation := 0, leftState := .idle, leftSpeed := 0 } }

/-- RESET (R199). DESIGN CHOICE (log 29): R199 gives the contents of the accepted answer alone; a refused one, with
RUN_ACTIVE or BAD_PARAM, shows the clock state and N in force. -/
def resetRequest (p : Payload Unit) (s : State) : Served :=
  match p with
  | .misfit => clockServed s .badParam
  | .fits _ => if s.schedule.state = .idle then clockServed (softReset s) .ok else clockServed s .runActive

/-- RESET. -/
def execReset (src : Sender) (p : Payload Unit) (s : State) : Host.Outcome State Fault Refusal :=
  .next (takeStation src 0x08#8 (resetRequest p) s)

/-- The part held in reset (R13): the lines inactive, no receiver receiving or answering. -/
def holdInReset (s : State) : State :=
  let t := clearLines s
  { t with
    clock := { t.clock with frameMark := false }
    receivers := { supervisory := .idle, observer := .idle, drive := .all .idle }
    heldInReset := true }

/-- RESET_LINE_ASSERT (R13). -/
def execResetLineAssert (s : State) : Host.Outcome State Fault Refusal := .next (holdInReset (settle s))

/-- Every block's full-reset values (R13), with SAFE-STOP read at that moment (R178). The queue of commands and the count
of free values drawn are no block's. -/
def fullReset (asserted : Bool) (s : State) : State :=
  { State.atReset asserted with pending := s.pending, drawn := s.drawn }

/-- RESET_LINE_RELEASE (R13): where the line had been recognised low. -/
def execResetLineRelease (asserted : Bool) (s : State) : Host.Outcome State Fault Refusal :=
  .next (if s.heldInReset then fullReset asserted s else settle s)

/-- POWER_ON (R13). -/
def execPowerOn (asserted : Bool) (s : State) : Host.Outcome State Fault Refusal := .next (fullReset asserted s)

end Sys2Proof.Machine
end

