-- ==== Sys2Proof/Machine/Receivers.lean ====
section
/-!
DEFINITION. The receivers (R191 to R194): BREAK, TEAR, ANSWER_SENT, LINE_IDLE, BYTE_ARRIVAL; and the judging of a message that
has been taken byte by byte: check, address, kind, then the request itself.
-/
namespace Sys2Proof.Machine

/-- The station request of a carried kind, its contents read from the payload bytes (R195; log 8). -/
def stationRequest (src : Sender) (kind : Byte) (payload : List Byte) (s : State) : Served :=
  match kind.toNat with
  | 0x01 => setClockRequest (Config.setClockContents payload) s
  | 0x02 => clockStartRequest (noParameters payload) s
  | 0x03 => clockHaltRequest (noParameters payload) s
  | 0x08 => resetRequest (noParameters payload) s
  | 0x20 => appendRequest payload s
  | 0x21 => loadBlockRequest payload s
  | 0x22 => flushRequest (noParameters payload) s
  | 0x24 => startRunRequest (noParameters payload) s
  | 0x25 => abortRunRequest (noParameters payload) s
  | 0x26 => closeRunRequest (noParameters payload) s
  | 0x27 => setRunRequest (Config.setRunContents payload) s
  | 0x30 => holdRequest src (Config.holdContents payload) s
  | 0x31 => releaseRequest src (noParameters payload) s
  | 0x32 => releaseHolderRequest (Config.releaseHolderContents payload) s
  | 0x40 => setAxisRequest (Config.setAxisContents payload) s
  | 0x41 => setSyncRequest (Config.setSyncContents payload) s
  | 0x42 => readAxisRequest (Config.readAxisContents payload) s
  | 0x44 => coupleRequest (Config.coupleContents payload) s
  | 0x45 => setGuardsRequest (Config.setGuardsContents payload) s
  | 0x48 => setBandsRequest (Config.setBandsContents payload) s
  | 0x49 => setLossRequest (Config.setLossContents payload) s
  | 0x4C => loadBankRequest (Config.loadBankContents payload) s
  | 0x4D => selectBankRequest (Config.selectBankContents payload) s
  | 0x50 => setLinksRequest (Config.setLinksContents payload) s
  | 0x54 => readFaultRequest (Config.readFaultContents payload) s
  | 0x55 => clearFaultRequest (Config.clearFaultContents payload) s
  | 0x58 => ackSafeStopRequest (noParameters payload) s
  | 0x5C => readRecordRequest (Config.readRecordContents payload) s
  | 0x60 => statusRequest (noParameters payload) s
  | 0x61 => snapshotRequest (noParameters payload) s
  | 0x62 => previewRequest (noParameters payload) s
  | _ => unknownServed s

/-- A station message judged by its kind (R195). -/
def stationServed (src : Sender) (kind : Byte) (payload : List Byte) (s : State) : Served :=
  if linkCarries (portOf src) kind then permitted src kind (stationRequest src kind payload) s else unknownServed s

/-- A drive message judged by its kind (R195). -/
def driveServed (n : Axis) (kind : Byte) (payload : List Byte) (s : State) : Served :=
  if kind.toNat = 0x70 then helloRequest n payload s
  else if kind.toNat = 0x71 then pollRequest n payload s
  else unknownServed s

/-- A taken message with a good check, judged by its address (R192). -/
def judgeMessage (p : Port) (address kind : Byte) (payload : List Byte) (s : State) : State :=
  match p with
  | .drive n => if portTakes p address then serve p address kind (driveServed n kind payload) s else s
  | _ =>
    match senderOf p address with
    | some src => serve p address kind (stationServed src kind payload) s
    | none => s

/-- The bytes of a complete message taken (R191, R192): a check that does not match discards it. -/
def takeBytes (p : Port) (bytes : List Byte) (s : State) : State :=
  match bytes with
  | address :: kind :: len :: rest =>
    let payload := rest.take len.toNat
    if (crc (address :: kind :: len :: payload)).toNat = fieldOf (rest.drop len.toNat) then
      judgeMessage p address kind payload s
    else s
  | _ => s

/-- A receiver event on a port: nothing while the part is held in reset (R13), and after any boundary in progress. -/
def receiverEvent (f : State → State) (s : State) : State :=
  let t := settle s
  if t.heldInReset then t else f t

/-- The receiver after a byte (R191, R194). -/
def afterByte (r : Receiver) (b : Byte) : Receiver :=
  match r with
  | .idle => .receiving [b]
  | .receiving bytes =>
    if messageComplete bytes then .waiting
    else if bytes.length = 2 ∧ 240 < b.toNat then .waiting
    else .receiving (bytes ++ [b])
  | .waiting => .waiting
  | .answering a => .answering a

/-- BYTE_ARRIVAL (R191, R194). -/
def execByteArrival (p : Port) (b : Byte) (s : State) : Host.Outcome State Fault Refusal :=
  .next (receiverEvent (fun t => t.setReceiver p (afterByte (t.receiver p) b)) s)

/-- The receiver after a gap of 2 character times: a message that is not complete is discarded (R191). -/
def afterGap (r : Receiver) : Receiver :=
  match r with
  | .receiving bytes => if messageComplete bytes then .receiving bytes else .waiting
  | .idle => .idle
  | .waiting => .waiting
  | .answering a => .answering a

/-- TEAR (R191). -/
def execTear (p : Port) (s : State) : Host.Outcome State Fault Refusal :=
  .next (receiverEvent (fun t => t.setReceiver p (afterGap (t.receiver p))) s)

/-- The receiver after the last byte of its answer (R194). -/
def afterAnswer (r : Receiver) : Receiver :=
  match r with
  | .answering _ => .waiting
  | .idle => .idle
  | .receiving bytes => .receiving bytes
  | .waiting => .waiting

/-- ANSWER_SENT (R194). -/
def execAnswerSent (p : Port) (s : State) : Host.Outcome State Fault Refusal :=
  .next (receiverEvent (fun t => t.setReceiver p (afterAnswer (t.receiver p))) s)

/-- 3 character times of idle line (R191): a complete message is taken, a torn or discarded one is over. -/
def lineFallsIdle (p : Port) (s : State) : State :=
  match s.receiver p with
  | .receiving bytes =>
    if messageComplete bytes then takeBytes p bytes (s.setReceiver p .idle) else s.setReceiver p .idle
  | .waiting => s.setReceiver p .idle
  | .idle | .answering _ => s

/-- LINE_IDLE (R191). -/
def execLineIdle (p : Port) (s : State) : Host.Outcome State Fault Refusal := .next (receiverEvent (lineFallsIdle p) s)

/-- A break (R193): the receiver waits, and an UP drive link becomes LOST (R161). -/
def breakLine (p : Port) (s : State) : State :=
  let t := s.setReceiver p .waiting
  match p with
  | .drive n => if (s.link n).state = .up then loseLink t n else t
  | .supervisory | .observer => t

/-- BREAK (R193). -/
def execLineBreak (p : Port) (s : State) : Host.Outcome State Fault Refusal := .next (receiverEvent (breakLine p) s)

end Sys2Proof.Machine
end

