-- ==== Sys2Proof/Machine/Dispatch.lean ====
section
/-!
DEFINITION. One arm per command: each calls the command's own meaning.
-/
namespace Sys2Proof.Machine

def exec (i : Instr) (s : State) : Host.Outcome State Fault Refusal :=
  match i with
  | .setClock src p => Sys2Proof.Machine.execSetClock src p s
  | .clockStart src p => Sys2Proof.Machine.execClockStart src p s
  | .clockHalt src p => Sys2Proof.Machine.execClockHalt src p s
  | .reset src p => Sys2Proof.Machine.execReset src p s
  | .append src payload => Sys2Proof.Machine.execAppend src payload s
  | .loadBlock src payload => Sys2Proof.Machine.execLoadBlock src payload s
  | .flush src p => Sys2Proof.Machine.execFlush src p s
  | .startRun src p => Sys2Proof.Machine.execStartRun src p s
  | .abortRun src p => Sys2Proof.Machine.execAbortRun src p s
  | .closeRun src p => Sys2Proof.Machine.execCloseRun src p s
  | .setRun src p => Sys2Proof.Machine.execSetRun src p s
  | .hold src p => Sys2Proof.Machine.execHold src p s
  | .release src p => Sys2Proof.Machine.execRelease src p s
  | .releaseHolder src p => Sys2Proof.Machine.execReleaseHolder src p s
  | .setAxis src p => Sys2Proof.Machine.execSetAxis src p s
  | .setSync src p => Sys2Proof.Machine.execSetSync src p s
  | .readAxis src p => Sys2Proof.Machine.execReadAxis src p s
  | .couple src p => Sys2Proof.Machine.execCouple src p s
  | .setGuards src p => Sys2Proof.Machine.execSetGuards src p s
  | .setBands src p => Sys2Proof.Machine.execSetBands src p s
  | .setLoss src p => Sys2Proof.Machine.execSetLoss src p s
  | .loadBank src p => Sys2Proof.Machine.execLoadBank src p s
  | .selectBank src p => Sys2Proof.Machine.execSelectBank src p s
  | .setLinks src p => Sys2Proof.Machine.execSetLinks src p s
  | .readFault src p => Sys2Proof.Machine.execReadFault src p s
  | .clearFault src p => Sys2Proof.Machine.execClearFault src p s
  | .ackSafeStop src p => Sys2Proof.Machine.execAckSafeStop src p s
  | .readRecord src p => Sys2Proof.Machine.execReadRecord src p s
  | .status src p => Sys2Proof.Machine.execStatus src p s
  | .snapshot src p => Sys2Proof.Machine.execSnapshot src p s
  | .preview src p => Sys2Proof.Machine.execPreview src p s
  | .unknownRequest p address kind => Sys2Proof.Machine.execUnknownRequest p address kind s
  | .badCheckDiscard p => Sys2Proof.Machine.execBadCheckDiscard p s
  | .addressIgnored p address => Sys2Proof.Machine.execAddressIgnored p address s
  | .hello n dest payload => Sys2Proof.Machine.execHello n dest payload s
  | .poll n dest payload => Sys2Proof.Machine.execPoll n dest payload s
  | .lockAcquired n dest payload => Sys2Proof.Machine.execLockAcquired n dest payload s
  | .slipPersist n dest payload => Sys2Proof.Machine.execSlipPersist n dest payload s
  | .frameBoundary order left => Sys2Proof.Machine.execFrameBoundary order left s
  | .frameMarkEnd => Sys2Proof.Machine.execFrameMarkEnd s
  | .phaseLineHoldEnd => Sys2Proof.Machine.execPhaseLineHoldEnd s
  | .frameLimit => Sys2Proof.Machine.execFrameLimit s
  | .segmentEnd => Sys2Proof.Machine.execSegmentEnd s
  | .segmentStart => Sys2Proof.Machine.execSegmentStart s
  | .endTaken => Sys2Proof.Machine.execEndTaken s
  | .dwellLimit => Sys2Proof.Machine.execDwellLimit s
  | .stopComplete => Sys2Proof.Machine.execStopComplete s
  | .holdExpiry => Sys2Proof.Machine.execHoldExpiry s
  | .linkTimeout n => Sys2Proof.Machine.execLinkTimeout n s
  | .applyEngage n => Sys2Proof.Machine.execApplyEngage n s
  | .applyRelease n => Sys2Proof.Machine.execApplyRelease n s
  | .traceDeviation => Sys2Proof.Machine.execTraceDeviation s
  | .safeStopAssert => Sys2Proof.Machine.execSafeStopAssert s
  | .safeStopDeassert => Sys2Proof.Machine.execSafeStopDeassert s
  | .resetLineAssert => Sys2Proof.Machine.execResetLineAssert s
  | .resetLineRelease asserted => Sys2Proof.Machine.execResetLineRelease asserted s
  | .powerOn asserted => Sys2Proof.Machine.execPowerOn asserted s
  | .lineBreak p => Sys2Proof.Machine.execLineBreak p s
  | .tear p => Sys2Proof.Machine.execTear p s
  | .answerSent p => Sys2Proof.Machine.execAnswerSent p s
  | .lineIdle p => Sys2Proof.Machine.execLineIdle p s
  | .byteArrival p b => Sys2Proof.Machine.execByteArrival p b s

end Sys2Proof.Machine
end

