-- ==== Sys2Proof/Safety.lean ====
section
/-!
DEFINITION. What the statements speak of: the state in which a request stands answered, and the properties of the part's
state that the manual claims at all times, each as one predicate of the state.
-/
namespace Sys2Proof.Machine

/-! ## Answers -/

/-- `t` with the station port of `src` answering: its address with the top bit set, the F in force, the code and the body
(R192, R194, R195). -/
def answerStation (t : State) (src : Sender) (kind : Byte) (code : Code) (body : Body) : State :=
  t.setReceiver (portOf src)
    (.answering { address := answerAddress (addressOf src), kind := kind, code := code, frame := t.clock.f, body := body })

/-- `t` with port DLn answering a drive that used address 0x30 + dest. -/
def answerDrive (t : State) (n dest : Axis) (kind : Byte) (code : Code) (body : Body) : State :=
  t.setReceiver (.drive n)
    (.answering
      { address := answerAddress (driveAddress dest), kind := kind, code := code, frame := t.clock.f, body := body })

/-- A field of `k` bytes, high byte first, a negative number in two's complement (spec/12, Message layouts). -/
def fieldBytes (k : Nat) (x : Int) : List Byte :=
  (List.range k).reverse.map fun i => (BitVec.ofInt (8 * k) x).extractLsb' (8 * i) 8

/-- The bytes of an answer (R191, R192, R195, R200): address, kind, length, the header's result code and F, the body, and
the check word of all of these. -/
def answerBytes (address kind : Byte) (code f : Nat) (body : List Byte) : List Byte :=
  let covered : List Byte :=
    [address, kind] ++ fieldBytes 1 ((5 + body.length : Nat) : Int) ++ fieldBytes 1 (code : Int) ++ fieldBytes 4 (f : Int) ++
      body
  covered ++ fieldBytes 2 ((crc covered).toNat : Int)

/-! ## Directives -/

/-- The Directive Unit `d` with a directive placed for axis n, or refused at placement, in the state `s` (R96, R95): a refusal
sets the last outcome alone; a placed directive takes the axis's entry and a new place at the end of the order. The checks
themselves are spelled out in Obligations.DirectivesApplied. -/
def placedInto (s : State) (d : DirectiveUnit) (n : Axis) (action : Action) : DirectiveUnit :=
  match placementRefusal s n action with
  | some refusal =>
    { d with slots := d.slots.set n { d.slots.get n with outcome := refusal, outcomeFrame := s.clock.f } }
  | none =>
    { d with
      slots :=
        d.slots.set n
          { d.slots.get n with
            pending := some { action := action, placed := s.clock.f }, outcome := .deferred, outcomeFrame := s.clock.f }
      order := d.order.filter (· ≠ n) ++ [n] }

/-- The Directive Unit after a segment's end (R100): with auto-release, a release placed for every axis in a group, in
ascending axis number. -/
def releasesPlaced (s : State) (g : Segment) : DirectiveUnit :=
  if g.autoRelease = true then
    ([0, 1, 2, 3] : List Axis).foldl
      (fun d n => if (s.axis n).group.isSome = true then placedInto s d n .release else d) s.directives
  else s.directives

/-- The Directive Unit `d` after a segment's start (R99): the items placed one by one in ascending axis number. -/
def itemsPlaced (s : State) (d : DirectiveUnit) (items : List DirectiveItem) : DirectiveUnit :=
  ([0, 1, 2, 3] : List Axis).foldl
    (fun acc n =>
      match items.find? fun item => decide (item.axis = n) with
      | some item => placedInto s acc n item.action
      | none => acc)
    d

/-! ## Which commands are messages -/

/-- The port a command that is a whole message arrives on; none for the other commands, and for the two that name what a
POLL brings about. -/
def messagePort (c : Instr) : Option Port :=
  match c with
  | .setClock src _ | .clockStart src _ | .clockHalt src _ | .reset src _ | .append src _ | .loadBlock src _
  | .flush src _ | .startRun src _ | .abortRun src _ | .closeRun src _ | .setRun src _ | .hold src _ | .release src _
  | .releaseHolder src _ | .setAxis src _ | .setSync src _ | .readAxis src _ | .couple src _ | .setGuards src _
  | .setBands src _ | .setLoss src _ | .loadBank src _ | .selectBank src _ | .setLinks src _ | .readFault src _
  | .clearFault src _ | .ackSafeStop src _ | .readRecord src _ | .status src _ | .snapshot src _ | .preview src _ =>
    some (portOf src)
  | .unknownRequest p _ _ | .badCheckDiscard p | .addressIgnored p _ => some p
  | .hello n _ _ | .poll n _ _ => some (.drive n)
  | .lockAcquired _ _ _ | .slipPersist _ _ _ | .frameBoundary _ _ | .frameMarkEnd | .phaseLineHoldEnd | .frameLimit
  | .segmentEnd | .segmentStart | .endTaken | .dwellLimit | .stopComplete | .holdExpiry | .linkTimeout _
  | .applyEngage _ | .applyRelease _ | .traceDeviation | .safeStopAssert | .safeStopDeassert | .resetLineAssert
  | .resetLineRelease _ | .powerOn _ | .lineBreak _ | .tear _ | .answerSent _ | .lineIdle _ | .byteArrival _ _ => none

/-- The sender and the kind of a request that only the supervisory computer may send (R195, Availability of requests). -/
def supervisoryRequest (c : Instr) : Option (Sender × Byte) :=
  match c with
  | .setClock src _ => some (src, 0x01#8)
  | .clockStart src _ => some (src, 0x02#8)
  | .clockHalt src _ => some (src, 0x03#8)
  | .reset src _ => some (src, 0x08#8)
  | .append src _ => some (src, 0x20#8)
  | .loadBlock src _ => some (src, 0x21#8)
  | .flush src _ => some (src, 0x22#8)
  | .startRun src _ => some (src, 0x24#8)
  | .abortRun src _ => some (src, 0x25#8)
  | .closeRun src _ => some (src, 0x26#8)
  | .setRun src _ => some (src, 0x27#8)
  | .releaseHolder src _ => some (src, 0x32#8)
  | .setAxis src _ => some (src, 0x40#8)
  | .setSync src _ => some (src, 0x41#8)
  | .readAxis src _ => some (src, 0x42#8)
  | .couple src _ => some (src, 0x44#8)
  | .setGuards src _ => some (src, 0x45#8)
  | .setBands src _ => some (src, 0x48#8)
  | .setLoss src _ => some (src, 0x49#8)
  | .loadBank src _ => some (src, 0x4C#8)
  | .selectBank src _ => some (src, 0x4D#8)
  | .setLinks src _ => some (src, 0x50#8)
  | .readFault src _ => some (src, 0x54#8)
  | .clearFault src _ => some (src, 0x55#8)
  | .ackSafeStop src _ => some (src, 0x58#8)
  | _ => none

/-- The sender and the kind of a request whose payload does not fit its fields (R200). -/
def misfitRequest (c : Instr) : Option (Sender × Byte) :=
  match c with
  | .setClock src .misfit => some (src, 0x01#8)
  | .clockStart src .misfit => some (src, 0x02#8)
  | .clockHalt src .misfit => some (src, 0x03#8)
  | .reset src .misfit => some (src, 0x08#8)
  | .flush src .misfit => some (src, 0x22#8)
  | .startRun src .misfit => some (src, 0x24#8)
  | .abortRun src .misfit => some (src, 0x25#8)
  | .closeRun src .misfit => some (src, 0x26#8)
  | .setRun src .misfit => some (src, 0x27#8)
  | .hold src .misfit => some (src, 0x30#8)
  | .release src .misfit => some (src, 0x31#8)
  | .releaseHolder src .misfit => some (src, 0x32#8)
  | .setAxis src .misfit => some (src, 0x40#8)
  | .setSync src .misfit => some (src, 0x41#8)
  | .readAxis src .misfit => some (src, 0x42#8)
  | .couple src .misfit => some (src, 0x44#8)
  | .setGuards src .misfit => some (src, 0x45#8)
  | .setBands src .misfit => some (src, 0x48#8)
  | .setLoss src .misfit => some (src, 0x49#8)
  | .loadBank src .misfit => some (src, 0x4C#8)
  | .selectBank src .misfit => some (src, 0x4D#8)
  | .setLinks src .misfit => some (src, 0x50#8)
  | .readFault src .misfit => some (src, 0x54#8)
  | .clearFault src .misfit => some (src, 0x55#8)
  | .ackSafeStop src .misfit => some (src, 0x58#8)
  | .readRecord src .misfit => some (src, 0x5C#8)
  | .status src .misfit => some (src, 0x60#8)
  | .snapshot src .misfit => some (src, 0x61#8)
  | .preview src .misfit => some (src, 0x62#8)
  | _ => none

/-! ## Properties of the state -/

/-- The clock (R1, R2, R7): N and F in their ranges, and a frame position, at most N, exactly while it is RUNNING. -/
def ClockSound (s : State) : Prop :=
  9 ≤ s.clock.n ∧ s.clock.n ≤ 99 ∧ s.clock.f ≤ 4294967295 ∧
  match s.clock.state with
  | .halted => s.clock.position = none
  | .running => ∃ p, s.clock.position = some p ∧ p ≤ s.clock.n

/-- The queue (R18, R19, R21, R22): at most 64 records, consecutively numbered up to the expected number, an END only at
the tail and only with the closed flag set, QUEUE LOW as the level and the mark give it. -/
def QueueSound (s : State) : Prop :=
  s.queue.records.length ≤ 64 ∧
  s.queue.records.IsChain (fun a b => b.number = numberAfter a.number) ∧
  (∀ g ∈ s.queue.records.dropLast, g.kind ≠ .closing) ∧
  (∀ g ∈ s.queue.records.getLast?, s.queue.expected = numberAfter g.number ∧ (g.kind = .closing → s.queue.closed = true)) ∧
  (∀ g ∈ s.queue.records, 1 ≤ g.number ∧ g.number ≤ 65535) ∧
  (1 ≤ s.queue.expected ∧ s.queue.expected ≤ 65535) ∧ s.queue.lowWaterMark ≤ 63 ∧
  s.queue.low = decide (s.queue.records.length ≤ s.queue.lowWaterMark)

/-- The schedule (R33, R34): the virtual speed in 0..20000 and 0 in IDLE, ARMED, ENDED and ABORTED, an active segment
exactly in RUNNING; and the speeds it works with, of the queue and of the active segment, in 0..20000. -/
def ScheduleSound (s : State) : Prop :=
  InRange 0 20000 s.schedule.virtualSpeed ∧
  (s.schedule.state ∈ [ScheduleState.idle, .armed, .ended, .aborted] → s.schedule.virtualSpeed = 0) ∧
  (s.schedule.active.isSome = true ↔ s.schedule.state = .running) ∧
  InRange 1 20 s.schedule.stopDeceleration ∧
  (∀ g ∈ s.queue.records, InRange 0 20000 g.endSpeed) ∧
  (∀ a ∈ s.schedule.active, InRange 0 20000 a.startSpeed ∧ InRange 0 20000 a.record.endSpeed)

/-- Hold entries (R67, R69): an AXISn entry never expires; once a boundary's expiries have been taken, every expiry frame
lies after F, and before that none lies before it. -/
def HoldsSound (s : State) : Prop :=
  (∀ (n : Axis) (e : HoldEntry), s.holds.get (.axis n) = some e → e.expiry = none) ∧
  (∀ (who : Holder) (e : HoldEntry) (x : Nat), s.holds.get who = some e → e.expiry = some x →
    s.clock.f ≤ x ∧ (Reaction.holds ∉ s.boundary.owed → s.clock.f < x))

/-- The coupling of one axis (R80): in a group exactly while ACQUIRING, LOCKED or SLIPPING, and that only while its mode is
ROAD, its link is UP, its fault latch is clear and the safety latch is NORMAL. -/
def CouplingSound (s : State) : Prop :=
  ∀ n : Axis,
    ((s.axis n).group.isSome = true ↔ (s.axis n).sync.coupled = true) ∧
    ((s.axis n).sync.coupled = true →
      (s.axis n).mode = .road ∧ (s.link n).state = .up ∧ (s.latch n).state = .clear ∧ s.safety = .normal)

/-- The three faces of an axis fault (R67, R80, R94): the set latch, the sync state FAULTED and the AXISn entry, of scope
ANY and without expiry, stand together; and then the axis is in no group and has no pending directive. -/
def FaultsAgree (s : State) : Prop :=
  ∀ n : Axis,
    ((s.axis n).sync = .faulted ↔ (s.latch n).state = .set) ∧
    ((s.holds.get (.axis n)).isSome = true ↔ (s.latch n).state = .set) ∧
    (∀ e ∈ s.holds.get (.axis n), e.scope = .any ∧ e.expiry = none) ∧
    ((s.latch n).state = .set → (s.slot n).pending = none ∧ (s.axis n).group = none)

/-- The fields of the fault latches (R166): empty while CLEAR; a first cause and a fault frame while SET. -/
def LatchesSound (s : State) : Prop :=
  ∀ n : Axis,
    ((s.latch n).state = .clear →
      (s.latch n).firstCause = none ∧ (s.latch n).faultFrame = none ∧ (s.latch n).driveCode = none ∧
      (s.latch n).alsoSeen = ⟨false, false, false, false⟩ ∧ (s.latch n).armed = false) ∧
    ((s.latch n).state = .set → (s.latch n).firstCause.isSome = true ∧ (s.latch n).faultFrame.isSome = true)

/-- The placement order (R94) lists exactly the axes with a pending directive, each once. -/
def DirectivesSound (s : State) : Prop :=
  s.directives.order.Nodup ∧ ∀ n : Axis, n ∈ s.directives.order ↔ (s.slot n).pending.isSome = true

/-- The banks (R129, R133, R135): at most one is ACTIVE; a pending selection names a bank that is not ACTIVE, and stands
only while a run is active. -/
def BanksSound (s : State) : Prop :=
  ¬ (s.road.bankA.activeCoefficients.isSome = true ∧ s.road.bankB.activeCoefficients.isSome = true) ∧
  ∀ name ∈ s.road.pendingSelection, (s.road.bank name).activeCoefficients = none ∧ s.runActive = true

/-- Out of NORMAL no run is active (R141). -/
def SafeStopSound (s : State) : Prop :=
  s.safety ≠ .normal → s.schedule.state = .idle ∨ s.schedule.state = .ended ∨ s.schedule.state = .aborted

/-- The reference is absent, or a position in the exception list. -/
def ReferenceSound (r : RunRecord) (reference : Option Nat) : Prop :=
  ∀ p ∈ reference, 1 ≤ p ∧ p ≤ r.exceptions.length

/-- The run record (R180 to R185): its lists within their capacities, the run state that of the schedule outside IDLE,
every reference a position in the list, and none while no run is active. -/
def RecordSound (s : State) : Prop :=
  s.record.phases.length ≤ 16 ∧ s.record.exceptions.length ≤ 32 ∧
  (s.schedule.state ≠ .idle → s.record.state = s.schedule.state.runState .none) ∧
  ReferenceSound s.record s.record.dwellRef ∧ ReferenceSound s.record s.record.traceRef ∧
  (∀ n : Axis, ReferenceSound s.record (s.record.slipRef.get n)) ∧
  (s.runActive = false →
    s.record.dwellRef = none ∧ s.record.traceRef = none ∧ ∀ n : Axis, s.record.slipRef.get n = none)

end Sys2Proof.Machine
end

