-- ==== Sys2Proof/Certificates/Slice0/Obligations.lean ====
section
/-!
DEFINITION. The statements for the provers. `settle s` is `s` with any boundary in progress taken in full, which every
request and line event finds (R3, R6, R8, R25); with nothing owed it is `s` itself (Obligations.SettleTakesWhatIsOwed).
-/
open Sys2Proof Sys2Proof.Machine

/-! ## The queue of commands, the step, the messages -/

/-- A step takes the command at the front of the queue and executes it on the state with the queue's rest. -/
def Obligations.StepExecutesTheFront : Prop :=
  ∀ (c : Instr) (rest : List Instr) (s : State), step { s with pending := c :: rest } = exec c { s with pending := rest }

/-- The model's choice (log 2): on an empty queue a step is one count of the 10 kHz time base. With no boundary in progress
and no lines held over a halt, a FRAME MARK pulse is over and a running clock short of N advances its frame position. -/
def Obligations.EmptyQueueCountsTime : Prop :=
  ∀ s : State, s.pending = [] → s.boundary.owed = [] → s.clock.lineHold = none → s.heldInReset = false →
    (s.clock.state = .halted → step s = .next { s with clock := { s.clock with frameMark := false } }) ∧
    (∀ p : Nat, s.clock.state = .running → s.clock.position = some p → p < s.clock.n →
      step s = .next { s with clock := { s.clock with frameMark := false, position := some (p + 1) } }) ∧
    (∀ p : Nat, s.clock.state = .running → s.clock.position = some p → s.clock.n ≤ p → s.clock.f < 4294967295 →
      ∃ t, step s = .next t ∧ t.clock.f = s.clock.f + 1)

/-- Nothing stops the part (log 23): every command answers a next state; and none changes the queue of commands, which
waits in the order it came. -/
def Obligations.EveryCommandGoesOn : Prop := ∀ (c : Instr) (s : State), ∃ t, exec c s = .next t ∧ t.pending = s.pending

/-- What `settle` is, and what a boundary taken in full is made of. Each reaction that is owed is taken by `react`, once, in
the model's own order; with none owed `settle` is the identity. FRAME_BOUNDARY takes the reactions of its order, each after
those that R188 and R7 put before it, then the others, and leaves those of `left` and those that may not come before them;
with nothing left it is `settle` of what the same boundary leaves with every reaction owed. A row that names an event of a
boundary takes the owed reaction that brings the event about, or changes nothing. The order, the reactions left, the owed
list and its bookkeeping are the model's (logs 3 and 4: DESIGN CHOICE; that a boundary is taken in full before any other
event is deduced there). -/
def Obligations.SettleTakesWhatIsOwed : Prop :=
  ∀ s : State,
    let all : List Reaction :=
      [.schedule, .directives, .holds, .link 0, .link 1, .link 2, .link 3, .trace, .limit]
    (∀ r : Reaction,
      takeOwed s r =
        if r ∈ s.boundary.owed then
          react r { s with boundary := { s.boundary with owed := s.boundary.owed.filter (· ≠ r) } }
        else s) ∧
    settle s = all.foldl takeOwed s ∧
    (s.boundary.owed = [] → settle s = s) ∧ (settle s).boundary.owed = [] ∧
    (∀ order left : List Reaction,
      let stays (r : Reaction) : Bool :=
        decide (r ∈ left ∨ r = .trace ∧ Reaction.schedule ∈ left ∨ r = .limit ∧ left ≠ [])
      let taken (t : State) (r : Reaction) : State :=
        if r = .trace then takeOwed (takeOwed t .schedule) .trace else if r = .limit then settle t else takeOwed t r
      ∃ b, exec (.frameBoundary [] all) s = .next b ∧ exec (.frameBoundary [] []) s = .next (settle b) ∧
        exec (.frameBoundary order []) s = .next (settle (order.foldl taken b)) ∧
        exec (.frameBoundary order left) s = .next (((order ++ all).filter fun r => !stays r).foldl taken b)) ∧
    (∀ (n : Axis) (row : Instr) (r : Reaction),
      (row, r) ∈
        [(Instr.segmentEnd, Reaction.schedule), (.segmentStart, .schedule), (.endTaken, .schedule),
          (.dwellLimit, .schedule), (.stopComplete, .schedule), (.holdExpiry, .holds), (.linkTimeout n, .link n),
          (.applyEngage n, .directives), (.applyRelease n, .directives)] →
      exec row s = .next s ∨ exec row s = .next (takeOwed s r)) ∧
    (exec .traceDeviation s = .next s ∨ exec .traceDeviation s = .next (takeOwed (takeOwed s .schedule) .trace)) ∧
    (exec .frameLimit s = .next s ∨ exec .frameLimit s = .next (settle s))

/-- A whole message on a port that is not IDLE, or while the part is held in reset, is discarded without an effect (R13,
R191, R194; log 1). -/
def Obligations.MessageOnBusyPortIsDiscarded : Prop :=
  ∀ (c : Instr) (p : Port) (s : State), messagePort c = some p → portReady (settle s) p = false →
    exec c s = .next (settle s)

/-- The refusals before a request's own rule. An observer's request that only the supervisory computer may send is answered
NOT_PERMITTED with the header alone (R195); a permitted request whose payload does not fit its fields is refused with
BAD_PARAM (R200; log 10); neither changes anything else. -/
def Obligations.RefusedBeforeItsRule : Prop :=
  ∀ (c : Instr) (src : Sender) (kind : Byte) (s : State), portReady (settle s) (portOf src) = true →
    (supervisoryRequest c = some (src, kind) → src ≠ .supervisor →
      exec c s = .next (answerStation (settle s) src kind .notPermitted .header)) ∧
    (misfitRequest c = some (src, kind) → (src = .supervisor ∨ observerMay kind = true) →
      ∃ body, exec c s = .next (answerStation (settle s) src kind .badParam body))

/-- UNKNOWN_REQUEST is answered with the header alone; a message that fails its check or whose address the port does not
take is not answered; none of the three changes anything else (R192, R195). The check word is R192's, the result codes have
R195's values, and an answer of the header alone has the bytes R192, R195 and R200 lay down. -/
def Obligations.MessagesThatAreNoRequest : Prop :=
  (∀ (p : Port) (address kind : Byte) (s : State), portReady (settle s) p = true →
    (portTakes p address = true → linkCarries p kind = false →
      exec (.unknownRequest p address kind) s = .next
        ((settle s).setReceiver p
          (.answering
            { address := answerAddress address, kind := kind, code := .unknownRequest, frame := (settle s).clock.f
              body := .header }))) ∧
    exec (.badCheckDiscard p) s = .next (settle s) ∧
    exec (.addressIgnored p address) s = .next (settle s)) ∧
  (∀ bytes : List Byte,
    crc bytes =
      (bytes.flatMap fun b => [7, 6, 5, 4, 3, 2, 1, 0].map fun i : Nat => b.getLsbD i).foldl
        (fun (r : BitVec 16) (bit : Bool) => if r.msb = bit then r <<< 1 else (r <<< 1) ^^^ 0x1021#16) 0xFFFF#16) ∧
  [Code.ok, .unknownRequest, .notPermitted, .refusedState, .runActive, .clockHalted, .badParam, .badRange, .badCheck, .full,
    .outOfSequence, .speedDiscontinuity, .queueClosed, .bankActive, .noBank, .noHold, .notArmed, .conditionPresent,
    .safeStopActive, .refusedSafe, .refusedFault, .refusedMode, .refusedLink, .refusedEngaged, .miswired].map Code.value =
    List.range 25 ∧
  ∀ a : Answer, a.body = .header → a.bytes = some (answerBytes a.address a.kind a.code.value a.frame [])

/-! ## The Frame Clock -/

/-- SET CLOCK (R4): refused while RUNNING and out of 9..99; else N alone changes. CLOCK START (R5): a HALTED clock below its
limit runs from frame position 0, F unchanged; else REFUSED_STATE. CLOCK HALT (R6, R11): refused while a run is active; a
RUNNING clock halts with F unchanged and no frame position, and lines active then are held for the rest of the frame; with
the clock HALTED nothing changes. -/
def Obligations.ClockRequests : Prop :=
  ∀ (s : State) (n : Nat), portReady (settle s) .supervisory = true →
    let u := settle s
    exec (.setClock .supervisor (.fits n)) s = .next
      (if u.clock.state = .running then
        answerStation u .supervisor 0x01#8 .refusedState (.clock u.clock.state u.clock.n)
      else if 9 ≤ n ∧ n ≤ 99 then
        answerStation { u with clock := { u.clock with n := n } } .supervisor 0x01#8 .ok (.clock u.clock.state n)
      else answerStation u .supervisor 0x01#8 .badRange (.clock u.clock.state u.clock.n)) ∧
    exec (.clockStart .supervisor (.fits ())) s = .next
      (if u.clock.state = .halted ∧ u.clock.f < 4294967295 then
        answerStation { u with clock := { u.clock with state := .running, position := some 0 } } .supervisor 0x02#8 .ok
          (.clock .running u.clock.n)
      else answerStation u .supervisor 0x02#8 .refusedState (.clock u.clock.state u.clock.n)) ∧
    exec (.clockHalt .supervisor (.fits ())) s = .next
      (if u.schedule.state = .armed ∨ u.schedule.state = .running ∨ u.schedule.state = .dwell ∨ u.schedule.state = .stopping then
        answerStation u .supervisor 0x03#8 .runActive (.clock u.clock.state u.clock.n)
      else if u.clock.state = .running then
        answerStation
          { u with
            clock :=
              { u.clock with
                state := .halted, position := none
                lineHold :=
                  if u.clock.lines = ⟨false, false, false, false⟩ then none
                  else some (u.clock.lineHold.getD (u.clock.n + 1 - u.clock.position.getD 0)) } }
          .supervisor 0x03#8 .ok (.clock .halted u.clock.n)
      else answerStation u .supervisor 0x03#8 .ok (.clock u.clock.state u.clock.n))

/-- FRAME_MARK_END and PHASE_LINE_HOLD_END (R9, R11): the pulse is over; lines held over a halt return inactive. DESIGN CHOICE
(log 11): the two commands imply that the time they need has passed, whatever count of the hold stands, and a
PHASE_LINE_HOLD_END with no lines held changes nothing. -/
def Obligations.LineTimingResult : Prop :=
  ∀ s : State,
    let u := settle s
    exec .frameMarkEnd s = .next { u with clock := { u.clock with frameMark := false } } ∧
    exec .phaseLineHoldEnd s = .next
      (if u.clock.lineHold.isSome then
        { u with clock := { u.clock with lines := ⟨false, false, false, false⟩, lineHold := none } }
      else u)

/-! ## The resets -/

/-- RESET (R199): outside IDLE refused with RUN_ACTIVE; in IDLE every block takes its soft-reset values (R8, R32, R58, R73,
R93, R115, R165, R179, R190) and the safety latch, the banks, the bands, the settings and the receivers of other ports are
kept. That the refusal shows the clock state and N in force is the DESIGN CHOICE of log 29. -/
def Obligations.SoftResetResult : Prop :=
  ∀ s : State, portReady (settle s) .supervisory = true →
    let u := settle s
    (u.schedule.state ≠ .idle →
      exec (.reset .supervisor (.fits ())) s =
        .next (answerStation u .supervisor 0x08#8 .runActive (.clock u.clock.state u.clock.n))) ∧
    (u.schedule.state = .idle →
      ∃ t, exec (.reset .supervisor (.fits ())) s =
          .next (answerStation t .supervisor 0x08#8 .ok (.clock .halted u.clock.n)) ∧
        t =
          { u with
            clock := t.clock, boundary := t.boundary, queue := t.queue, schedule := t.schedule, holds := t.holds
            axes := t.axes, directives := t.directives, road := t.road, links := t.links, latches := t.latches
            record := t.record, trace := t.trace } ∧
        t.clock =
          { u.clock with
            state := .halted, f := 0, position := none, lines := ⟨false, false, false, false⟩, lineHold := none } ∧
        t.queue = { records := [], expected := 1, closed := false, lowWaterMark := u.queue.lowWaterMark, low := true } ∧
        t.schedule =
          { Schedule.atReset with
            dwellLimit := u.schedule.dwellLimit, stopDeceleration := u.schedule.stopDeceleration
            faultPolicy := u.schedule.faultPolicy } ∧
        (∀ who : Sender, t.holds.get (.external who) = none) ∧
        (∀ n : Axis, t.holds.get (.axis n) = (u.holds.get (.axis n)).map fun e => { e with placed := 0 }) ∧
        (∀ n : Axis, t.axis n =
          { u.axis n with
            group := none, sync := if (u.axis n).sync = .faulted then .faulted else .uncoupled
            lockCount := 0, slipCount := 0, speedError := 0, measuredSpeed := none, sampleFrame := none
            acceleration := 0, stale := true, saturated := false }) ∧
        (∀ n : Axis, t.slot n =
          { pending := none, outcome := if (u.slot n).pending.isSome then .cancelled else .none, outcomeFrame := 0
            engaged := none, released := none }) ∧
        t.directives.order = [] ∧ t.directives.guards = u.directives.guards ∧
        t.road = { u.road with pendingSelection := none } ∧
        (∀ n : Axis, t.link n = { u.link n with lastAccepted := none, lastPoll := 0 }) ∧
        (∀ n : Axis, t.latch n =
          { u.latch n with
            faultFrame := if (u.latch n).state = .set then some 0 else (u.latch n).faultFrame
            armed := false, lastClear := none }) ∧
        t.record = RunRecord.atReset ∧ t.trace.deviation = 0 ∧ t.trace.tolerance = u.trace.tolerance ∧
        t.trace.allowed = u.trace.allowed)

/-- The RESET line and power-on (R13, R178): recognised low, the part is held with its outputs inactive and its receivers
idle; when the line returns high, and at power-on, every block takes its full-reset values, SAFE-STOP being read then. A
line that returns high without having been recognised low changes nothing. What the part keeps and does while the line is
low is deduced in log 7; that a full reset keeps the queue of commands and the counter of free values, which are the model's
own state, is the DESIGN CHOICE of log 22. -/
def Obligations.ResetLineResult : Prop :=
  ∀ (s : State) (asserted : Bool),
    exec .resetLineAssert s = .next
      { settle s with
        clock := { (settle s).clock with frameMark := false, lines := ⟨false, false, false, false⟩, lineHold := none }
        receivers := { supervisory := .idle, observer := .idle, drive := .all .idle }
        heldInReset := true } ∧
    exec (.resetLineRelease asserted) s = .next
      (if s.heldInReset = true then { State.atReset asserted with pending := s.pending, drawn := s.drawn } else settle s) ∧
    exec (.powerOn asserted) s = .next { State.atReset asserted with pending := s.pending, drawn := s.drawn }

/-- The full-reset values the manual states (R1, R32, R53, R58, R73, R79, R92, R101, R114, R128, R147, R164, R178, R190). -/
def Obligations.FullResetValues : Prop :=
  ∀ asserted : Bool,
    let r := State.atReset asserted
    (r.clock.state = .halted ∧ r.clock.n = 19 ∧ r.clock.f = 0 ∧ r.clock.position = none ∧ r.clock.frameMark = false ∧
      r.clock.lines = ⟨false, false, false, false⟩) ∧
    (r.queue.records = [] ∧ r.queue.expected = 1 ∧ tailSpeed r = 0 ∧ r.queue.closed = false ∧ r.queue.lowWaterMark = 8 ∧
      r.queue.low = true) ∧
    (r.schedule.state = .idle ∧ r.schedule.active = none ∧ r.schedule.virtualSpeed = 0 ∧ r.schedule.distance = 0 ∧
      r.schedule.dwellCount = 0 ∧ r.schedule.totalDwell = 0 ∧ r.schedule.startFrame = none ∧ r.schedule.runFrame = 0 ∧
      r.schedule.stopCause = none ∧ r.schedule.currentPhase = none ∧ r.schedule.dwellLimit = 5000 ∧
      r.schedule.stopDeceleration = 1 ∧ r.schedule.faultPolicy = .proceed) ∧
    (∀ who : Holder, r.holds.get who = none) ∧
    (∀ n : Axis, r.axis n =
      { mode := .parked, group := none, sync := .uncoupled, measuredSpeed := none, sampleFrame := none, stale := true
        acceleration := 0, speedError := 0, lockCount := 0, slipCount := 0, temperature := none, driveStatus := none
        saturated := false, forceLimit := 6000, rollerMass := 300 }) ∧
    r.sync = ⟨30, 150, 20, 50, 200, 1500, 3000⟩ ∧
    (∀ n : Axis, r.slot n = { pending := none, outcome := .none, outcomeFrame := 0, engaged := none, released := none }) ∧
    r.directives.order = [] ∧ r.directives.guards = ⟨250, 100, 500, 5, 2⟩ ∧
    r.loss.settings = ⟨0, 20, 45, 3⟩ ∧ (∀ n : Axis, r.loss.bands.get n = .unset) ∧
    (∀ n k : Axis, (r.loss.table.get n).get k = ⟨0, 0⟩) ∧
    r.road = { bankA := .empty, bankB := .empty, pendingSelection := none } ∧
    (∀ n : Axis, r.link n = { state := .down, rating := none, limit := none, lastAccepted := none, lastPoll := 0 }) ∧
    r.linkSettings = ⟨10, 2⟩ ∧
    (∀ n : Axis, r.latch n =
      { state := .clear, firstCause := none, faultFrame := none, alsoSeen := ⟨false, false, false, false⟩
        driveCode := none, armed := false, lastClear := none }) ∧
    r.safety = (if asserted then .safeAsserted else .safeLatched) ∧ r.safeStopAsserted = asserted ∧
    r.record = { state := .none, phases := [], exceptions := [], phaseOverflow := false, exceptionOverflow := false
                 dwellRef := none, slipRef := .all none, traceRef := none } ∧
    (r.trace.deviation = 0 ∧ r.trace.tolerance = 200 ∧ r.trace.allowed = 500) ∧
    (∀ p : Port, r.receiver p = .idle)

/-! ## The Segment Queue -/

/-- APPEND and LOAD BLOCK (R23, R25, R26, R27): the checks in their order, the first failure refusing the whole request with
the queue as it was; else the records join the tail as one event. The tail speed is R20's: the end speed of the last pending
record, or with none pending that of the active segment, or else the virtual speed. -/
def Obligations.BlockResult : Prop :=
  (∀ t : State,
    let endSpeed (g : Segment) : Int := match g.kind with
      | .ramp target _ => target
      | .stand _ | .closing => 0
    (∀ (before : List Segment) (last : Segment), t.queue.records = before ++ [last] → tailSpeed t = endSpeed last) ∧
    (∀ a : ActiveSegment, t.queue.records = [] → t.schedule.state = .running → t.schedule.active = some a →
      tailSpeed t = endSpeed a.record) ∧
    (t.queue.records = [] → (t.schedule.state ≠ .running ∨ t.schedule.active = none) →
      tailSpeed t = t.schedule.virtualSpeed)) ∧
  ∀ (s : State) (payload : List Byte), portReady (settle s) .supervisory = true →
    let u := settle s
    let report (t : State) : QueueReport :=
      { count := t.queue.records.length, expected := t.queue.expected, tailSpeed := tailSpeed t, closed := t.queue.closed
        low := t.queue.low }
    let outcome (kind : Byte) (walked : Option (List RawRecord)) : State :=
      let refused (code : Code) (position : Nat) : State :=
        answerStation u .supervisor kind code (.queue position (report u))
      if ¬ (u.schedule.state = .idle ∨ u.schedule.state = .armed ∨ u.schedule.state = .running ∨ u.schedule.state = .dwell) then
        refused .refusedState 0
      else if u.queue.closed = true then refused .queueClosed 0
      else
        match walked with
        | none => refused .badParam 0
        | some rs =>
          if 64 - u.queue.records.length < rs.length then refused .full 0
          else
            match checkRecords { expected := u.queue.expected, tail := tailSpeed u, closed := false } 1 rs with
            | .error (code, position) => refused code position
            | .ok (segments, last) =>
              let records := u.queue.records ++ segments
              let t : State :=
                { u with
                  queue :=
                    { u.queue with
                      records := records, expected := last.expected, closed := last.closed
                      low := decide (records.length ≤ u.queue.lowWaterMark) } }
              answerStation t .supervisor kind .ok (.queue 0 (report t))
    exec (.append .supervisor payload) s = .next (outcome 0x20#8 (walkRecords 1 payload)) ∧
    exec (.loadBlock .supervisor payload) s = .next (outcome 0x21#8 (blockRecords payload))

/-- How records are walked off a message (R200), what the checks a to f of R24 are and their order, and what a record that
passes becomes. A walk takes the bytes of one record, its fields fixed by kind, directive count and phase bit; check b is
R16's and R200's, check c the ranges of R15; a record that passes all six becomes the segment its bits spell, and the trial
values move to its successor number and its end speed. -/
def Obligations.RecordChecks : Prop :=
  (∀ (bytes : List Byte) (r : RawRecord) (rest : List Byte),
    let kind : Nat := r.form % 4
    let number : List Byte := fieldBytes 2 (r.number : Int)
    let form : List Byte := fieldBytes 1 (r.form : Int)
    let target : List Byte := if kind = 1 then fieldBytes 2 (r.target : Int) else []
    let duration : List Byte := if kind = 1 ∨ kind = 2 then fieldBytes 2 (r.duration : Int) else []
    let phase : List Byte := match r.phase with
      | some p => fieldBytes 1 (p : Int)
      | none => []
    let directives : List Byte := r.directives.flatMap fun d : Nat => fieldBytes 1 (d : Int)
    walkRecord bytes = some (r, rest) ↔
      r.covered = number ++ form ++ target ++ duration ++ phase ++ directives ∧
      bytes = r.covered ++ fieldBytes 2 (r.check : Int) ++ rest ∧
      r.number < 65536 ∧ r.form < 256 ∧ r.check < 65536 ∧ (if kind = 1 then r.target < 65536 else r.target = 0) ∧
      (if kind = 1 ∨ kind = 2 then r.duration < 65536 else r.duration = 0) ∧
      (r.phase.isSome = true ↔ r.form / 32 % 2 = 1) ∧ (∀ p ∈ r.phase, p < 256) ∧
      r.directives.length = r.form / 4 % 8 ∧ ∀ d ∈ r.directives, d < 256) ∧
  (∀ (bytes : List Byte) (k : Nat),
    (walkRecords 0 [] = some [] ∧ ∀ b : Byte, walkRecords 0 (b :: bytes) = none) ∧
    (walkRecord bytes = none → walkRecords (k + 1) bytes = none) ∧
    (∀ (r : RawRecord) (rest : List Byte), walkRecord bytes = some (r, rest) →
      walkRecords (k + 1) bytes = (walkRecords k rest).map fun rs => r :: rs) ∧
    blockRecords [] = none ∧
    ∀ count : Byte,
      blockRecords (count :: bytes) =
        if 1 ≤ count.toNat ∧ count.toNat ≤ 16 then walkRecords count.toNat bytes else none) ∧
  ∀ (t : Trial) (position : Nat) (r : RawRecord) (rest : List RawRecord),
    let kind : Nat := r.form % 4
    let wellFormed : Bool :=
      decide
        (kind ≠ 0 ∧ r.form < 128 ∧ r.form / 4 % 8 ≤ 4 ∧
          (kind = 3 → r.phase = none ∧ r.directives = [] ∧ r.form / 64 % 2 = 0) ∧
          (∀ d ∈ r.directives, d < 64 ∧ (d / 4 % 4 = 1 ∧ d / 16 % 4 ≠ 0 ∨ d / 4 % 4 = 2 ∧ d / 16 % 4 = 0)) ∧
          (r.directives.map fun d => d % 4).Nodup)
    let inRange : Bool :=
      decide
        ((1 ≤ r.number ∧ r.number ≤ 65535) ∧ r.target ≤ 20000 ∧ (kind ≠ 3 → 1 ≤ r.duration ∧ r.duration ≤ 60000) ∧
          (∀ p ∈ r.phase, p / 16 ≠ 0 ∧ p % 16 ≠ 0) ∧ ∀ d ∈ r.directives, d / 4 % 4 = 1 → d / 16 % 4 ≠ 3)
    let failure : Option Code :=
      if (crc r.covered).toNat ≠ r.check then some .badCheck
      else if wellFormed = false then some .badParam
      else if inRange = false then some .badRange
      else if t.closed = true then some .queueClosed
      else if r.number ≠ t.expected then some .outOfSequence
      else if kind ≠ 1 ∧ t.tail ≠ 0 then some .speedDiscontinuity
      else none
    let segment : Segment :=
      { number := r.number
        kind := if kind = 1 then .ramp r.target r.duration else if kind = 2 then .stand r.duration else .closing
        phase := r.phase.map fun p =>
          { number := p / 16 % 16
            lines :=
              { pm0 := decide (p % 2 = 1), pm1 := decide (p / 2 % 2 = 1), pm2 := decide (p / 4 % 2 = 1)
                pm3 := decide (p / 8 % 2 = 1) } }
        directives := r.directives.map fun d =>
          { axis := Fin.ofNat 4 d
            action := if d / 4 % 4 = 2 then .release else if d / 16 % 4 = 1 then .engage .one else .engage .two }
        autoRelease := decide (r.form / 64 % 2 = 1)
        check := BitVec.ofNat 16 r.check }
    checkRecords t position [] = .ok ([], t) ∧
    checkRecords t position (r :: rest) =
      match failure with
      | some code => .error (code, position)
      | none =>
        let after : Trial :=
          { expected := if r.number = 65535 then 1 else r.number + 1
            tail := if kind = 1 then r.target else 0
            closed := decide (kind = 3) }
        match checkRecords after (position + 1) rest with
        | .ok (segments, last) => .ok (segment :: segments, last)
        | .error e => .error e

/-- FLUSH (R30): taken in every schedule state; the list empty, the expected number 1, the closed flag clear, QUEUE LOW set,
nothing else touched; the answer counts what was removed. -/
def Obligations.FlushResult : Prop :=
  ∀ s : State, portReady (settle s) .supervisory = true →
    let u := settle s
    let t : State :=
      { u with
        queue := { records := [], expected := 1, closed := false, lowWaterMark := u.queue.lowWaterMark, low := true } }
    exec (.flush .supervisor (.fits ())) s = .next
      (answerStation t .supervisor 0x22#8 .ok
        (.flushed u.queue.records.length
          { count := 0, expected := 1, closed := false, low := true
            tailSpeed :=
              match u.schedule.state, u.schedule.active with
              | .running, some a => a.record.endSpeed
              | _, _ => u.schedule.virtualSpeed }))

/-! ## The Schedule Engine's requests -/

/-- START RUN (R35, R36): the checks in their order; accepted, the schedule is ARMED with its run data, the run record and
the deviation counter cleared, and nothing else changed. -/
def Obligations.StartRunResult : Prop :=
  ∀ s : State, portReady (settle s) .supervisory = true →
    let u := settle s
    let refused (code : Code) : State := answerStation u .supervisor 0x24#8 code (.schedule u.schedule.state)
    exec (.startRun .supervisor (.fits ())) s = .next
      (if u.schedule.state ≠ .idle then refused .refusedState
      else if u.clock.state ≠ .running then refused .clockHalted
      else if u.safety ≠ .normal then refused .safeStopActive
      else if (∃ n : Axis, (u.axis n).mode = .road) ∧ u.road.bankA.activeCoefficients = none ∧
          u.road.bankB.activeCoefficients = none then
        refused .noBank
      else
        answerStation
          { u with
            schedule :=
              { u.schedule with
                state := .armed, active := none, virtualSpeed := 0, distance := 0, dwellCount := 0, totalDwell := 0
                startFrame := none, runFrame := 0, stopCause := none, currentPhase := none }
            record :=
              { state := .armed, phases := [], exceptions := [], phaseOverflow := false, exceptionOverflow := false
                dwellRef := none, slipRef := .all none, traceRef := none }
            trace := { u.trace with deviation := 0 } }
          .supervisor 0x24#8 .ok (.schedule .armed))

/-- How a run is stopped and how it ends (R41, R49, R50, R51, R135, R185). Entry into STOPPING leaves the speed and, as log 13
deduces from R45, R49 and R51, the dwell count; entry into ENDED or ABORTED sets speed and dwell count to 0, discards the
segment and the pending selection, and closes the episodes. A RUN_STOP entry is made by `enterStopping` and `enterAborted`
alone, with their cause. -/
def Obligations.RunEndings : Prop :=
  ∀ (s : State) (cause : StopCause),
    let stopEntry : ExceptionEntry :=
      { kind := .runStop, opened := s.schedule.runFrame, closed := none, axis := none, holder := none
        cause := some (.stop cause) }
    let ended (t : State) (final : ScheduleState) (shown : RunState) (c : Option StopCause) : State :=
      { t with
        schedule :=
          { t.schedule with
            state := final, active := none, virtualSpeed := 0, dwellCount := 0, stopCause := c }
        road := { t.road with pendingSelection := none }
        record := { (closeEpisodes t).record with state := shown } }
    enterEnded s = ended s .ended .ended none ∧
    enterAborted s cause = ended (placeEntry s stopEntry) .aborted .aborted (some cause) ∧
    completeStop s = ended s .aborted .aborted s.schedule.stopCause ∧
    (let w := if s.schedule.state = .dwell then closeDwell s else s
    enterStopping s cause =
      placeEntry
        { w with
          schedule := { w.schedule with state := .stopping, active := none, stopCause := some cause }
          record := { w.record with state := .stopping } }
        stopEntry)

/-- ABORT RUN (R48): ABORTED at once from ARMED, STOPPING from RUNNING and DWELL, refused in the other states. CLOSE RUN
(R52): from ENDED and ABORTED the queue is flushed and the schedule IDLE; refused in the other states, the number of records
removed then shown as 0 (log 25: DESIGN CHOICE). `enterAborted` and `enterStopping` are spelled out by
Obligations.RunEndings. -/
def Obligations.AbortAndCloseRun : Prop :=
  ∀ s : State, portReady (settle s) .supervisory = true →
    let u := settle s
    exec (.abortRun .supervisor (.fits ())) s = .next
      (if u.schedule.state = .armed then
        answerStation (enterAborted u .abortRequest) .supervisor 0x25#8 .ok (.schedule .aborted)
      else if u.schedule.state = .running ∨ u.schedule.state = .dwell then
        answerStation (enterStopping u .abortRequest) .supervisor 0x25#8 .ok (.schedule .stopping)
      else answerStation u .supervisor 0x25#8 .refusedState (.schedule u.schedule.state)) ∧
    exec (.closeRun .supervisor (.fits ())) s = .next
      (if u.schedule.state = .ended ∨ u.schedule.state = .aborted then
        answerStation
          { u with
            queue := { records := [], expected := 1, closed := false, lowWaterMark := u.queue.lowWaterMark, low := true }
            schedule := { u.schedule with state := .idle } }
          .supervisor 0x26#8 .ok (.closed .idle u.queue.records.length)
      else answerStation u .supervisor 0x26#8 .refusedState (.closed u.schedule.state 0))

/-- SET RUN (R53, R22): refused while a run is active and out of range; else the six settings are taken together and QUEUE
LOW is recomputed. The answer carries the six in force. -/
def Obligations.SetRunResult : Prop :=
  ∀ (s : State) (r : RunFields), portReady (settle s) .supervisory = true →
    let u := settle s
    let settings (t : State) : Body :=
      .runSettings t.schedule.dwellLimit t.schedule.stopDeceleration t.schedule.faultPolicy t.queue.lowWaterMark
        t.trace.tolerance t.trace.allowed
    exec (.setRun .supervisor (.fits r)) s = .next
      (if u.schedule.state = .armed ∨ u.schedule.state = .running ∨ u.schedule.state = .dwell ∨ u.schedule.state = .stopping then
        answerStation u .supervisor 0x27#8 .runActive (settings u)
      else
        match r.faultPolicy with
        | none => answerStation u .supervisor 0x27#8 .badRange (settings u)
        | some policy =>
          if (1 ≤ r.dwellLimit ∧ r.dwellLimit ≤ 60000) ∧ (1 ≤ r.stopDeceleration ∧ r.stopDeceleration ≤ 20) ∧
              r.lowWaterMark ≤ 63 ∧ (10 ≤ r.traceTolerance ∧ r.traceTolerance ≤ 500) ∧
              (1 ≤ r.allowedDeviation ∧ r.allowedDeviation ≤ 5000) then
            let t : State :=
              { u with
                schedule :=
                  { u.schedule with
                    dwellLimit := r.dwellLimit, stopDeceleration := r.stopDeceleration, faultPolicy := policy }
                queue :=
                  { u.queue with
                    lowWaterMark := r.lowWaterMark, low := decide (u.queue.records.length ≤ r.lowWaterMark) }
                trace := { u.trace with tolerance := r.traceTolerance, allowed := r.allowedDeviation } }
            answerStation t .supervisor 0x27#8 .ok (settings t)
          else answerStation u .supervisor 0x27#8 .badRange (settings u))

/-! ## The Hold Set and the gate -/

/-- HOLD (R61, R62, R63), RELEASE (R64) and RELEASE HOLDER (R66): a HOLD places or replaces its own sender's entry, a
RELEASE removes it, and RELEASE HOLDER removes the external entry it names, or all of them; no other entry, and nothing
else, changes. -/
def Obligations.HoldRequests : Prop :=
  ∀ (s : State) (src : Sender) (h : HoldFields) (target : HolderTarget), portReady (settle s) (portOf src) = true →
    let u := settle s
    let shown (e : HoldEntry) : ShownHold :=
      { holder := .external src, scope := e.scope, reason := e.reason, placed := e.placed, expiry := shownFrame e.expiry }
    let own : Option HoldEntry := u.holds.get (.external src)
    ((h.scope = none →
        exec (.hold src (.fits h)) s = .next (answerStation u src 0x30#8 .badParam (.held (own.map shown)))) ∧
      (∀ d : Nat, h.scope.isSome = true → h.duration = some d → (d = 0 ∨ 60000 < d) →
        exec (.hold src (.fits h)) s = .next (answerStation u src 0x30#8 .badRange (.held (own.map shown)))) ∧
      (∀ scope : Scope, h.scope = some scope → (∀ d ∈ h.duration, 1 ≤ d ∧ d ≤ 60000) →
        let e : HoldEntry :=
          { scope := scope, reason := h.reason, placed := u.clock.f, expiry := h.duration.map fun d => u.clock.f + d }
        ∃ t, exec (.hold src (.fits h)) s = .next (answerStation t src 0x30#8 .ok (.held (some (shown e)))) ∧
          t = { u with holds := t.holds } ∧
          ∀ who : Holder, t.holds.get who = if who = .external src then some e else u.holds.get who)) ∧
    ((own = none →
        exec (.release src (.fits ())) s = .next (answerStation u src 0x31#8 .noHold (.removed 0))) ∧
      (own.isSome = true →
        ∃ t, exec (.release src (.fits ())) s = .next (answerStation t src 0x31#8 .ok (.removed 1)) ∧
          t = { u with holds := t.holds } ∧
          ∀ who : Holder, t.holds.get who = if who = .external src then none else u.holds.get who)) ∧
    (src = .supervisor →
      let answered (t : State) (code : Code) (count : Nat) : Prop :=
        exec (.releaseHolder src (.fits target)) s = .next (answerStation t src 0x32#8 code (.removed count))
      (target = .other → answered u .badParam 0) ∧
      (∀ who : Holder, target = .one who → u.holds.get who = none → answered u .noHold 0) ∧
      (∀ n : Axis, target = .one (.axis n) → (u.holds.get (.axis n)).isSome = true → answered u .conditionPresent 0) ∧
      (∀ x : Sender, target = .one (.external x) → (u.holds.get (.external x)).isSome = true →
        ∃ t, answered t .ok 1 ∧ t = { u with holds := t.holds } ∧
          ∀ who : Holder, t.holds.get who = if who = .external x then none else u.holds.get who) ∧
      (target = .all →
        ∃ t, answered t .ok
            ([Sender.supervisor, .sampler, .driverAid].countP fun x => (u.holds.get (.external x)).isSome) ∧
          t = { u with holds := t.holds } ∧ (∀ x : Sender, t.holds.get (.external x) = none) ∧
          ∀ n : Axis, t.holds.get (.axis n) = u.holds.get (.axis n)))

/-- The gate (R38): open when the queue has a head, no counting entry has scope ANY, and, for a head with a phase, none has
scope PHASE; an entry counts unless its expiry frame is at or before F. -/
def Obligations.GateRule : Prop :=
  ∀ s : State,
    gateOpen s = true ↔
      ∃ head rest, s.queue.records = head :: rest ∧
        ∀ (who : Holder) (e : HoldEntry), s.holds.get who = some e → (∀ x ∈ e.expiry, s.clock.f < x) →
          e.scope ≠ .any ∧ (head.phase.isSome = true → e.scope ≠ .phase)

/-! ## Axis records and settings -/

/-- SET AXIS (R77, R78, R87, R110, R152): the checks in their order; accepted, the three values and the effective limit of
the named axis are set; with a mode other than ROAD a grouped axis is released, its departure recorded, and a pending
directive cancelled. Other axes keep everything. That a refusal which names no axis 0..3 is answered with the header alone
is the DESIGN CHOICE of log 17. -/
def Obligations.SetAxisResult : Prop :=
  ∀ (s : State) (r : AxisFields), portReady (settle s) .supervisory = true →
    let u := settle s
    let settings (t : State) (n : Axis) : Body :=
      .axisSettings (t.axis n).mode (t.axis n).forceLimit (t.axis n).rollerMass (t.axis n).group (t.axis n).sync
    let answered (t : State) (code : Code) (body : Body) : Prop :=
      exec (.setAxis .supervisor (.fits r)) s = .next (answerStation t .supervisor 0x40#8 code body)
    (4 ≤ r.axis → answered u (if u.runActive = true then .runActive else .badParam) .header) ∧
    (∀ n : Axis, r.axis = n.val →
      (u.runActive = true → answered u .runActive (settings u n)) ∧
      (u.runActive = false → r.mode = none → answered u .badParam (settings u n)) ∧
      (∀ mode : AxisMode, u.runActive = false → r.mode = some mode →
        (¬ ((1000 ≤ r.forceLimit ∧ r.forceLimit ≤ 12000) ∧ (0 ≤ r.rollerMass ∧ r.rollerMass ≤ 2000)) →
          answered u .badRange (settings u n)) ∧
        ((1000 ≤ r.forceLimit ∧ r.forceLimit ≤ 12000) ∧ (0 ≤ r.rollerMass ∧ r.rollerMass ≤ 2000) →
          ∃ t, answered t .ok (settings t n) ∧
            t = { u with axes := t.axes, links := t.links, directives := t.directives, record := t.record } ∧
            (∀ m : Axis, m ≠ n → t.axis m = u.axis m ∧ t.link m = u.link m ∧ t.slot m = u.slot m) ∧
            t.link n = { u.link n with limit := (u.link n).rating.map fun rating => min r.forceLimit rating } ∧
            t.directives.guards = u.directives.guards ∧
            (let set : AxisRecord :=
              { u.axis n with mode := mode, forceLimit := r.forceLimit, rollerMass := r.rollerMass }
            let released : Bool := decide (mode ≠ .road) && (u.axis n).group.isSome
            let cancelled : Bool := decide (mode ≠ .road) && (u.slot n).pending.isSome
            t.axis n =
              (if released = true then
                { set with group := none, sync := .uncoupled, lockCount := 0, slipCount := 0, speedError := 0 }
              else set) ∧
            (t.slot n).pending = (if mode ≠ .road then none else (u.slot n).pending) ∧
            (t.slot n).outcome = (if cancelled = true then .cancelled else (u.slot n).outcome) ∧
            (t.slot n).outcomeFrame = (if cancelled = true then u.clock.f else (u.slot n).outcomeFrame) ∧
            (t.slot n).engaged = (u.slot n).engaged ∧
            (t.slot n).released = (if released = true then some u.clock.f else (u.slot n).released) ∧
            t.directives.order =
              (if cancelled = true then u.directives.order.filter (· ≠ n) else u.directives.order) ∧
            t.record = (if released = true ∧ (u.axis n).sync = .slipping then (closeSlip u n).record else u.record)))))

/-- SET SYNC (R79), SET GUARDS (R102) and SET LINKS (R158): refused while a run is active and out of range; else the
settings alone change. -/
def Obligations.SharedSettingsResult : Prop :=
  ∀ (s : State) (c : SyncSettings) (g : GuardSettings) (l : LinkSettings), portReady (settle s) .supervisory = true →
    let u := settle s
    let active : Prop :=
      u.schedule.state = .armed ∨ u.schedule.state = .running ∨ u.schedule.state = .dwell ∨ u.schedule.state = .stopping
    (let good : Prop :=
      (5 ≤ c.lockWindow ∧ c.lockWindow ≤ 500) ∧ (c.lockWindow < c.slipLimit ∧ c.slipLimit ≤ 2000) ∧
      (1 ≤ c.lockConfirm ∧ c.lockConfirm ≤ 255) ∧ (1 ≤ c.slipPersist ∧ c.slipPersist ≤ 255) ∧
      (0 ≤ c.gain ∧ c.gain ≤ 1000) ∧ (0 ≤ c.acquiringAuthority ∧ c.acquiringAuthority ≤ 12000) ∧
      (0 ≤ c.lockedAuthority ∧ c.lockedAuthority ≤ 12000)
    let answered (t : State) (code : Code) : Prop :=
      exec (.setSync .supervisor (.fits c)) s = .next (answerStation t .supervisor 0x41#8 code (.sync t.sync))
    (active → answered u .runActive) ∧ (¬ active → ¬ good → answered u .badRange) ∧
    (¬ active → good → answered { u with sync := c } .ok)) ∧
    (let good : Prop :=
      g.lockMin ≤ 60000 ∧ g.freeMin ≤ 60000 ∧ g.cycleMin ≤ 60000 ∧ g.staggerSame ≤ 1000 ∧ g.staggerOther ≤ 1000 ∧
      g.lockMin + g.freeMin ≤ g.cycleMin
    let answered (t : State) (code : Code) : Prop :=
      exec (.setGuards .supervisor (.fits g)) s = .next
        (answerStation t .supervisor 0x45#8 code (.guards t.directives.guards))
    (active → answered u .runActive) ∧ (¬ active → ¬ good → answered u .badRange) ∧
    (¬ active → good → answered { u with directives := { u.directives with guards := g } } .ok)) ∧
    (let good : Prop := (2 ≤ l.timeout ∧ l.timeout ≤ 200) ∧ l.maxSampleAge ≤ 7
    let answered (t : State) (code : Code) : Prop :=
      exec (.setLinks .supervisor (.fits l)) s = .next
        (answerStation t .supervisor 0x50#8 code (.links t.linkSettings t.links))
    (active → answered u .runActive) ∧ (¬ active → ¬ good → answered u .badRange) ∧
    (¬ active → good → answered { u with linkSettings := l } .ok))

/-- The values of a group (R81, R82) and the coupling correction (R85): the means over the counted members, truncated toward
zero, with the axis's own values where there is none; the correction from the stored error, clipped to its authority. -/
def Obligations.GroupValues : Prop :=
  ∀ (s : State) (n : Axis),
    let own (i : Axis) : Int := (s.axis i).measuredSpeed.getD 0
    let counted (g : Group) (i : Axis) : Bool :=
      decide
        ((s.axis i).group = some g ∧
          ((s.axis i).sync = .acquiring ∨ (s.axis i).sync = .locked ∨ (s.axis i).sync = .slipping) ∧
          (s.link i).state = .up ∧ (s.axis i).stale = false)
    ((s.axis n).group = none → reference s n = own n ∧ groupAcceleration s n = (s.axis n).acceleration) ∧
    (∀ g : Group, (s.axis n).group = some g →
      let members : List Axis := [0, 1, 2, 3].filter (counted g)
      (members = [] → reference s n = own n ∧ groupAcceleration s n = (s.axis n).acceleration) ∧
      (members ≠ [] →
        reference s n = (members.map own).sum.tdiv members.length ∧
        groupAcceleration s n = (members.map fun i => (s.axis i).acceleration).sum.tdiv members.length)) ∧
    (let raw := (s.sync.gain * (s.axis n).speedError).tdiv 10
    ((s.axis n).sync = .acquiring → 0 ≤ s.sync.acquiringAuthority →
      correction s n = max (-s.sync.acquiringAuthority) (min s.sync.acquiringAuthority raw)) ∧
    (((s.axis n).sync = .locked ∨ (s.axis n).sync = .slipping) → 0 ≤ s.sync.lockedAuthority →
      correction s n = max (-s.sync.lockedAuthority) (min s.sync.lockedAuthority raw)) ∧
    (((s.axis n).sync = .uncoupled ∨ (s.axis n).sync = .faulted) → correction s n = 0))

/-! ## Directives -/

/-- COUPLE (R96, R97): the form of the request, then the placement checks in their order; a refused placement sets the last
outcome alone; a placed directive takes the axis's entry, supersedes the one that stood there and joins the end of the
placement order. DESIGN CHOICE: a refusal that names no axis 0..3 is answered with the header alone (log 17), and with no
pending directive the earliest frame is shown as absent (log 27). -/
def Obligations.CoupleResult : Prop :=
  ∀ (s : State) (c : CoupleFields), portReady (settle s) .supervisory = true →
    let u := settle s
    let report (t : State) (n : Axis) (superseded : Option DirectiveOutcome) : Body :=
      .couple
        { pending := (t.slot n).pending, outcome := (t.slot n).outcome, outcomeFrame := (t.slot n).outcomeFrame
          superseded := superseded
          earliest := match (t.slot n).pending with
            | some d => shownFrame (earliestFrame t n d.action)
            | none => .absent }
    let answered (t : State) (code : Code) (body : Body) : Prop :=
      exec (.couple .supervisor (.fits c)) s = .next (answerStation t .supervisor 0x44#8 code body)
    (4 ≤ c.axis → answered u .badParam .header) ∧
    (∀ n : Axis, c.axis = n.val →
      ((c.action = .other ∨ c.action = .engage none ∨ ∃ g : Nat, c.action = .release (some g)) →
        answered u .badParam (report u n none)) ∧
      (∀ g : Nat, c.action = .engage (some g) → g ≠ 1 → g ≠ 2 → answered u .badRange (report u n none)) ∧
      (∀ action : Action,
        (c.action = .engage (some 1) ∧ action = .engage .one ∨ c.action = .engage (some 2) ∧ action = .engage .two ∨
          c.action = .release none ∧ action = .release) →
        let refusal : Option (DirectiveOutcome × Code) :=
          if u.safety ≠ .normal then some (.refusedSafe, .refusedSafe)
          else if (u.latch n).state = .set then some (.refusedFault, .refusedFault)
          else if action = .release then none
          else if (u.axis n).mode ≠ .road then some (.refusedMode, .refusedMode)
          else if (u.link n).state ≠ .up then some (.refusedLink, .refusedLink)
          else if ∃ g ∈ (u.axis n).group, action ≠ .engage g then some (.refusedEngaged, .refusedEngaged)
          else none
        ∃ t, t = { u with directives := t.directives } ∧ t.directives.guards = u.directives.guards ∧
          (∀ m : Axis, m ≠ n → t.slot m = u.slot m) ∧
          match refusal with
          | some (outcome, code) =>
            answered t code (report t n none) ∧
            t.slot n = { u.slot n with outcome := outcome, outcomeFrame := u.clock.f } ∧
            t.directives.order = u.directives.order
          | none =>
            answered t .ok (report t n (if (u.slot n).pending.isSome = true then some .superseded else none)) ∧
            t.slot n =
              { u.slot n with
                pending := some { action := action, placed := u.clock.f }, outcome := .deferred
                outcomeFrame := u.clock.f } ∧
            t.directives.order = u.directives.order.filter (· ≠ n) ++ [n]))

/-- The earliest frame of a directive (R104): the largest of the terms whose history is present; no term, no earliest
frame. The axle partner of 0 is 1, of 2 is 3, and the other axle holds the other two. -/
def Obligations.EarliestFrame : Prop :=
  ∀ (s : State) (n : Axis) (g : Group),
    let c := s.directives.guards
    let same : Axis := match n with
      | 0 => 1
      | 1 => 0
      | 2 => 3
      | 3 => 2
    let others : List Axis := match n with
      | 0 | 1 => [2, 3]
      | 2 | 3 => [0, 1]
    earliestFrame s n (.engage g) =
      ([(s.slot n).released.map (· + c.freeMin), (s.slot n).engaged.map (· + c.cycleMin),
        (s.slot same).engaged.map (· + c.staggerSame)] ++
        others.map fun i => (s.slot i).engaged.map (· + c.staggerOther)).reduceOption.max? ∧
    earliestFrame s n .release = (s.slot n).engaged.map (· + c.lockMin) ∧
    ∀ action : Action,
      guardsAllow s n action = true ↔ ∀ e : Nat, earliestFrame s n action = some e → e ≤ s.clock.f

/-! ## Losses and road load -/

/-- SET BANDS (R117, R118): out of its restriction it keeps all four values; else the four change and no band moves. SET
LOSS (R124): refused whole, or each named entry takes its item's coefficients and no other entry changes. -/
def Obligations.LossRequests : Prop :=
  ∀ (s : State) (c : BandSettings) (items : List LossItem), portReady (settle s) .supervisory = true →
    let u := settle s
    (let good : Prop :=
      (1 ≤ c.th ∧ c.th ≤ 15) ∧ -40 ≤ c.ta ∧ c.ta + c.th ≤ c.tb ∧ c.tb + c.th ≤ c.tc ∧ c.tc + c.th ≤ 125
    let answered (t : State) (code : Code) : Prop :=
      exec (.setBands .supervisor (.fits c)) s = .next (answerStation t .supervisor 0x48#8 code (.loss t.loss))
    (¬ good → answered u .badRange) ∧
    (good → answered { u with loss := { u.loss with settings := c } } .ok)) ∧
    (let formed : Prop :=
      items.length ≤ 16 ∧ (∀ i ∈ items, i.axis < 4 ∧ i.band < 4) ∧ (items.map fun i => (i.axis, i.band)).Nodup
    let good : Prop := ∀ i ∈ items, (0 ≤ i.c0 ∧ i.c0 ≤ 500) ∧ (0 ≤ i.c1 ∧ i.c1 ≤ 5000)
    let answered (t : State) (code : Code) : Prop :=
      exec (.setLoss .supervisor (.fits items)) s = .next (answerStation t .supervisor 0x49#8 code (.loss t.loss))
    (¬ formed → answered u .badParam) ∧ (formed → ¬ good → answered u .badRange) ∧
    (formed → good →
      ∃ t, answered t .ok ∧ t = { u with loss := { u.loss with table := t.loss.table } } ∧
        ∀ n k : Axis,
          (∀ i ∈ items, i.axis = n.val → i.band = k.val → (t.loss.table.get n).get k = { c0 := i.c0, c1 := i.c1 }) ∧
          ((∀ i ∈ items, ¬ (i.axis = n.val ∧ i.band = k.val)) →
            (t.loss.table.get n).get k = (u.loss.table.get n).get k)))

/-- The band after a temperature (R120, R121), for thresholds in their restriction (R117): a first temperature goes to the
band that contains it; a later one raises the band as far as the edges it clears by TH, or lowers it to the band that
contains it, and between the two leaves it. -/
def Obligations.BandEvaluation : Prop :=
  ∀ (c : BandSettings) (t : Int), 1 ≤ c.th → c.ta + c.th ≤ c.tb → c.tb + c.th ≤ c.tc →
    let containing : Axis := if t < c.ta then 0 else if t < c.tb then 1 else if t < c.tc then 2 else 3
    let cleared : Axis :=
      if t < c.ta + c.th then 0 else if t < c.tb + c.th then 1 else if t < c.tc + c.th then 2 else 3
    evaluateBand c t .unset = .band containing ∧
    ∀ k : Axis, evaluateBand c t (.band k) = .band (max cleared (min k containing))

/-- LOAD BANK (R129, R130): refused for an ACTIVE bank and out of range, else the bank is LOADED. SELECT BANK (R132, R133):
immediate out of a run, pending in ARMED, RUNNING and DWELL, refused in STOPPING; a selection of the ACTIVE bank during a
run clears a pending one. -/
def Obligations.BankRequests : Prop :=
  ∀ (s : State) (name : BankName) (c : Coefficients), portReady (settle s) .supervisory = true →
    let u := settle s
    let bank (r : RoadLoad) (x : BankName) : Bank := match x with
      | .a => r.bankA
      | .b => r.bankB
    let report (t : State) : Body := .banks t.road.bankA t.road.bankB t.road.pendingSelection t.schedule.state
    let loadAnswered (t : State) (code : Code) : Prop :=
      exec (.loadBank .supervisor (.fits { bank := some name, coefficients := c })) s =
        .next (answerStation t .supervisor 0x4C#8 code (report t))
    let selectAnswered (t : State) (code : Code) : Prop :=
      exec (.selectBank .supervisor (.fits (some name))) s = .next (answerStation t .supervisor 0x4D#8 code (report t))
    let good : Prop :=
      (0 ≤ c.f0 ∧ c.f0 ≤ 5000) ∧ (0 ≤ c.f1 ∧ c.f1 ≤ 50000) ∧ (0 ≤ c.f2 ∧ c.f2 ≤ 100000) ∧
      (500 ≤ c.mass ∧ c.mass ≤ 5000) ∧ (0 ≤ c.frontShare ∧ c.frontShare ≤ 100)
    exec (.loadBank .supervisor (.fits { bank := none, coefficients := c })) s =
      .next (answerStation u .supervisor 0x4C#8 .badParam (report u)) ∧
    ((∃ d, bank u.road name = .active d) → loadAnswered u .bankActive) ∧
    ((∀ d, bank u.road name ≠ .active d) → ¬ good → loadAnswered u .badRange) ∧
    ((∀ d, bank u.road name ≠ .active d) → good →
      ∃ t, loadAnswered t .ok ∧ t = { u with road := t.road } ∧
        t.road.pendingSelection = u.road.pendingSelection ∧
        ∀ x : BankName, bank t.road x = if x = name then .loaded c else bank u.road x) ∧
    exec (.selectBank .supervisor (.fits none)) s =
      .next (answerStation u .supervisor 0x4D#8 .badParam (report u)) ∧
    (u.schedule.state = .stopping → selectAnswered u .refusedState) ∧
    ((u.schedule.state = .armed ∨ u.schedule.state = .running ∨ u.schedule.state = .dwell) →
      ((∃ d, bank u.road name = .active d) →
        selectAnswered { u with road := { u.road with pendingSelection := none } } .ok) ∧
      ((∀ d, bank u.road name ≠ .active d) →
        selectAnswered { u with road := { u.road with pendingSelection := some name } } .ok)) ∧
    ((u.schedule.state = .idle ∨ u.schedule.state = .ended ∨ u.schedule.state = .aborted) →
      (bank u.road name = .empty → selectAnswered u .noBank) ∧
      (∀ d, bank u.road name = .active d → selectAnswered u .ok) ∧
      (∀ d, bank u.road name = .loaded d →
        ∃ t, selectAnswered t .ok ∧ t = { u with road := t.road } ∧
          t.road.pendingSelection = u.road.pendingSelection ∧ bank t.road name = .active d ∧
          ∀ x : BankName, x ≠ name →
            (∀ e, bank u.road x = .active e → bank t.road x = .loaded e) ∧
            ((∀ e, bank u.road x ≠ .active e) → bank t.road x = bank u.road x)))

/-- The road-load share and the inertia term of an axis for an ACTIVE bank's coefficients (R136, R137, R138), each quotient
truncated toward zero. -/
def Obligations.RoadAndInertia : Prop :=
  ∀ (s : State) (c : Coefficients) (n : Axis),
    let v := reference s n
    let share : Int := if n = 0 ∨ n = 1 then c.frontShare else 100 - c.frontShare
    let total : Int :=
      if -50 ≤ v ∧ v ≤ 50 then 0
      else
        (if v < 0 then -1 else 1) *
          (c.f0 + (c.f1 * (v.natAbs : Int)).tdiv 10000 + (c.f2 * (v * v)).tdiv 100000000)
    roadShare s c n = (total * share).tdiv 200 ∧
    inertiaTerm s c n =
      ((c.mass * share - 200 * (s.axis n).rollerMass) * groupAcceleration s n).tdiv (720 * ((s.clock.n : Int) + 1))

/-- A demand's mode is decided by the first line that holds (R140); a ROAD demand is the sum of its four terms (R144) with
the loss of R125, clipped to the effective force limit, and saturated exactly where it was clipped (R145). -/
def Obligations.DemandComposition : Prop :=
  ∀ (s : State) (n : Axis) (limit : Int), (s.link n).limit = some limit → 0 ≤ limit →
    let plain (order : DemandOrder) (brake : Bool) : Demand := { axis := n, order := order, brakeOn := brake, saturated := false }
    let v : Int := (s.axis n).measuredSpeed.getD 0
    let loss : Int :=
      match s.loss.bands.get n with
      | .unset => 0
      | .band k =>
        ((s.loss.table.get n).get k).c0 + (((s.loss.table.get n).get k).c1 * (v.natAbs : Int)).tdiv 10000
    let signedLoss : Int := if 0 < v then loss else if v < 0 then -loss else 0
    let load : Int :=
      match s.road.bankA, s.road.bankB with
      | .active c, _ => roadShare s c n + inertiaTerm s c n
      | _, .active c => roadShare s c n + inertiaTerm s c n
      | _, _ => 0
    let sum : Int := load - signedLoss + correction s n
    demandFor s n =
      if s.safety ≠ .normal then plain .safe true
      else if s.clock.state = .halted then plain .parked true
      else if (s.latch n).state = .set then plain .free false
      else
        match (s.axis n).mode with
        | .parked => plain .parked true
        | .free => plain .free false
        | .speed => plain (.speed s.schedule.virtualSpeed) false
        | .road =>
          { axis := n, order := .road (max (-limit) (min limit sum)), brakeOn := false
            saturated := decide (sum < -limit ∨ limit < sum) }

/-! ## The drive links -/

/-- HELLO (R149, R150, R151, R152): the checks in their order; miswired, the link is DOWN, the axis's record stale if it
was UP, and the cause reaches the axis's latch; accepted, the link is UP and the limits and the last-poll frame are set. The
bytes of WELCOME and of a refused HELLO's answer are those of R200's layouts. -/
def Obligations.HelloResult : Prop :=
  (∀ (a : Answer) (n : Axis) (link : LinkState) (clock : ClockState) (period : Nat),
    let first : List Byte :=
      fieldBytes 1 (n.val : Int) ++
        fieldBytes 1 (match link with
          | .down => 0
          | .up => 1
          | .lost => 2) ++
        fieldBytes 1 (match clock with
          | .halted => 0
          | .running => 1) ++
        fieldBytes 1 (period : Int)
    (a.body = .hello n link clock period →
      a.bytes = some (answerBytes a.address a.kind a.code.value a.frame first)) ∧
    ∀ (limit : Int) (timeout age : Nat), a.body = .welcome n link clock period limit timeout age →
      a.bytes =
        some
          (answerBytes a.address a.kind a.code.value a.frame
            (first ++ fieldBytes 2 limit ++ fieldBytes 1 (timeout : Int) ++ fieldBytes 1 (age : Int)))) ∧
  ∀ (s : State) (n dest : Axis) (payload : List Byte), portReady (settle s) (.drive n) = true →
    let u := settle s
    let refused (t : State) (code : Code) : Prop :=
      exec (.hello n dest payload) s =
        .next (answerDrive t n dest 0x70#8 code (.hello n (t.link n).state t.clock.state t.clock.n))
    (payload.length ≠ 3 → refused u .badParam) ∧
    (∀ a r1 r0 : Byte, payload = [a, r1, r0] →
      let rating : Nat := 256 * r1.toNat + r0.toNat
      (4 ≤ a.toNat → refused u .badParam) ∧
      (a.toNat < 4 → a.toNat ≠ n.val →
        let w : State :=
          { u with
            axes := if (u.link n).state = .up then u.axes.set n { u.axis n with stale := true } else u.axes
            links := u.links.set n { u.link n with state := .down } }
        refused (raiseCause w n .miswired none) .miswired) ∧
      (a.toNat = n.val → ¬ (1000 ≤ rating ∧ rating ≤ 20000) → refused u .badParam) ∧
      (a.toNat = n.val → 1000 ≤ rating → rating ≤ 20000 →
        let limit : Int := min (u.axis n).forceLimit (rating : Int)
        exec (.hello n dest payload) s = .next
          (answerDrive
            { u with
              links :=
                u.links.set n
                  { u.link n with
                    state := .up, rating := some (rating : Int), limit := some limit, lastPoll := u.clock.f } }
            n dest 0x74#8 .ok
            (.welcome n .up u.clock.state u.clock.n limit u.linkSettings.timeout u.linkSettings.maxSampleAge))))

/-- POLL (R153, R154, R156): REJOIN on a link that is not UP; BAD_PARAM when malformed; miswiring for another axis's number;
else the last-poll frame is renewed, the sample classified and delivered, and the answer is the demand composed after that,
whose saturated flag the record takes. A well-formed POLL is one laid out as R200 gives it, and the bytes of DEMAND are
those of its layout. That a malformed POLL is answered with the header alone is deduced in log 17 from spec/12, "Worked
sequence: a poll torn and a poll answered" (the answer has 10 bytes). -/
def Obligations.PollResult : Prop :=
  (∀ (payload : List Byte) (p : PollFields),
    pollFields payload = some p ↔
      payload =
        fieldBytes 1 (p.axis.val : Int) ++ fieldBytes 4 (p.sampleFrame : Int) ++ fieldBytes 2 p.speed ++
          fieldBytes 1 (match p.status with
            | .ready => 0
            | .limited => 1
            | .fault => 2
            | .brakeSet => 3) ++
          (match p.temperature with
            | some d => fieldBytes 1 1 ++ fieldBytes 1 d
            | none => fieldBytes 1 0) ++
          (match p.faultCode with
            | some code => [code]
            | none => []) ∧
      p.sampleFrame < 4294967296 ∧ (-32768 ≤ p.speed ∧ p.speed ≤ 32767) ∧ (∀ d ∈ p.temperature, -128 ≤ d ∧ d ≤ 127) ∧
      (p.faultCode.isSome = true ↔ p.status = .fault)) ∧
  (∀ (a : Answer) (d : Demand), a.body = .demand d →
    a.bytes =
      some
        (answerBytes a.address a.kind a.code.value a.frame
          (fieldBytes 1 (d.axis.val : Int) ++
            fieldBytes 1 (match d.order with
              | .safe => 0
              | .parked => 1
              | .free => 2
              | .speed _ => 3
              | .road _ => 4) ++
            fieldBytes 1 ((if d.brakeOn = true then 1 else 0) + (if d.saturated = true then 2 else 0)) ++
            fieldBytes 2 (match d.order with
              | .road force => force
              | .speed v => v
              | .safe | .parked | .free => 0)))) ∧
  ∀ (s : State) (n dest : Axis) (payload : List Byte), portReady (settle s) (.drive n) = true →
    let u := settle s
    ((u.link n).state ≠ .up →
      exec (.poll n dest payload) s = .next (answerDrive u n dest 0x73#8 .ok (.rejoin n (u.link n).state))) ∧
    ((u.link n).state = .up → pollFields payload = none →
      exec (.poll n dest payload) s = .next (answerDrive u n dest 0x71#8 .badParam .header)) ∧
    (∀ p : PollFields, (u.link n).state = .up → pollFields payload = some p → p.axis ≠ n →
      let w : State :=
        { u with
          axes := u.axes.set n { u.axis n with stale := true }
          links := u.links.set n { u.link n with state := .down } }
      exec (.poll n dest payload) s =
        .next (answerDrive (raiseCause w n .miswired none) n dest 0x73#8 .ok (.rejoin n .down))) ∧
    (∀ p : PollFields, (u.link n).state = .up → pollFields payload = some p → p.axis = n →
      let cls := classify u.clock.f (u.link n).lastAccepted u.linkSettings.maxSampleAge p.sampleFrame p.speed
      let w : State :=
        { u with
          links :=
            u.links.set n
              { u.link n with
                lastPoll := u.clock.f
                lastAccepted := if cls = .accepted then some p.sampleFrame else (u.link n).lastAccepted } }
      let v := deliver w n cls p (p.temperature.filter fun d => decide (-40 ≤ d ∧ d ≤ 125))
      let d := demandFor v n
      exec (.poll n dest payload) s = .next
        (answerDrive { v with axes := v.axes.set n { v.axis n with saturated := d.saturated } } n dest 0x72#8 .ok
          (.demand d)))

/-- A sample's class (R155) and its delivery in R76's order: the drive status, a DRIVE_FAULT, then for an accepted sample
the measurement with its acceleration estimate (R75), the temperature with its band (R119), and the sync update; a stale
sample sets the stale flag alone; a repeat changes nothing more. -/
def Obligations.DeliveryEffects : Prop :=
  (∀ (f : Nat) (last : Option Nat) (maxAge sample : Nat) (speed : Int),
    let timely : Prop := sample ≤ f ∧ f - sample ≤ maxAge
    (classify f last maxAge sample speed = .accepted ↔
      timely ∧ (∀ l ∈ last, l < sample) ∧ -3000 ≤ speed ∧ speed ≤ 22000) ∧
    (classify f last maxAge sample speed = .repeated ↔ timely ∧ last = some sample)) ∧
  (∀ (s : State) (n : Axis) (p : PollFields) (temperature : Option Int),
    let told : State := { s with axes := s.axes.set n { s.axis n with driveStatus := some p.status } }
    let base : State := if p.status = .fault then raiseCause told n .driveFault p.faultCode else told
    let stored : State :=
      { base with
        axes :=
          base.axes.set n
            { base.axis n with
              measuredSpeed := some p.speed, sampleFrame := some p.sampleFrame, stale := false
              acceleration :=
                match (base.axis n).measuredSpeed, (base.axis n).sampleFrame with
                | some v, some f => ((p.speed - v) * 100).tdiv ((p.sampleFrame : Int) - f)
                | _, _ => 0
              temperature := match temperature with
                | some d => some d
                | none => (base.axis n).temperature }
        loss :=
          match temperature with
          | some d =>
            { base.loss with
              bands := base.loss.bands.set n (evaluateBand base.loss.settings d (base.loss.bands.get n)) }
          | none => base.loss }
    deliver s n .repeated p temperature = base ∧
    deliver s n .stale p temperature = { base with axes := base.axes.set n { base.axis n with stale := true } } ∧
    deliver s n .accepted p temperature = if p.status = .fault then stored else syncUpdate stored n)

/-- The sync update (R83, R84): the speed error is stored; within the lock window the lock count goes up to C_lock and
LOCKED; beyond the slip limit a slip starts and its count goes up to C_slip and the cause SLIP; back within the lock window
the slip ends. Counts stop at 255. -/
def Obligations.SyncUpdate : Prop :=
  ∀ (s : State) (n : Axis),
    let a := s.axis n
    let e := a.measuredSpeed.getD 0 - reference s n
    let put (x : AxisRecord) : State := { s with axes := s.axes.set n x }
    let lockCount := min 255 (a.lockCount + 1)
    let slipCount := min 255 (a.slipCount + 1)
    let within : Prop := -s.sync.lockWindow ≤ e ∧ e ≤ s.sync.lockWindow
    let beyond : Prop := e < -s.sync.slipLimit ∨ s.sync.slipLimit < e
    ((a.sync = .uncoupled ∨ a.sync = .faulted) → syncUpdate s n = s) ∧
    (a.sync = .acquiring →
      (within →
        syncUpdate s n =
          put
            { a with
              speedError := e, lockCount := lockCount
              sync := if s.sync.lockConfirm ≤ lockCount then .locked else .acquiring }) ∧
      (¬ within → syncUpdate s n = put { a with speedError := e, lockCount := 0 })) ∧
    (a.sync = .locked →
      (¬ beyond → syncUpdate s n = put { a with speedError := e }) ∧
      (beyond →
        let t := openSlip (put { a with speedError := e, sync := .slipping, slipCount := 1 }) n
        syncUpdate s n = if s.sync.slipPersist ≤ 1 then raiseCause t n .slip none else t)) ∧
    (a.sync = .slipping →
      (beyond →
        let t := put { a with speedError := e, slipCount := slipCount }
        syncUpdate s n = if s.sync.slipPersist ≤ slipCount then raiseCause t n .slip none else t) ∧
      (¬ beyond → within → syncUpdate s n = closeSlip (put { a with speedError := e, sync := .locked, slipCount := 0 }) n) ∧
      (¬ beyond → ¬ within → syncUpdate s n = put { a with speedError := e }))

/-- LOCK_ACQUIRED and SLIP_PERSIST (R83; log 5): the POLL whose accepted sample, once stored, brings the lock count of an
ACQUIRING axis to C_lock, or the slip count of a LOCKED or SLIPPING axis to C_slip, is that row's event, with the POLL's
effect; a POLL that does neither is no such event. -/
def Obligations.PollEvents : Prop :=
  ∀ (s : State) (n dest : Axis) (payload : List Byte) (p : PollFields), portReady (settle s) (.drive n) = true →
    let u := settle s
    (u.link n).state = .up → pollFields payload = some p → p.axis = n → p.status ≠ .fault →
    classify u.clock.f (u.link n).lastAccepted u.linkSettings.maxSampleAge p.sampleFrame p.speed = .accepted →
    let a := u.axis n
    let stored : State :=
      storeAccepted
        { u with
          axes := u.axes.set n { a with driveStatus := some p.status }
          links := u.links.set n { u.link n with lastPoll := u.clock.f, lastAccepted := some p.sampleFrame } }
        n p.speed p.sampleFrame (p.temperature.filter fun d => decide (-40 ≤ d ∧ d ≤ 125))
    let e := p.speed - reference stored n
    (a.sync = .acquiring → -u.sync.lockWindow ≤ e → e ≤ u.sync.lockWindow →
      u.sync.lockConfirm ≤ min 255 (a.lockCount + 1) →
      ∃ t, exec (.lockAcquired n dest payload) s = .next t ∧ exec (.poll n dest payload) s = .next t ∧
        (t.axis n).sync = .locked ∧ (t.axis n).speedError = e ∧ (t.axis n).lockCount = min 255 (a.lockCount + 1)) ∧
    ((a.sync = .locked ∧ u.sync.slipPersist ≤ 1 ∨
        a.sync = .slipping ∧ u.sync.slipPersist ≤ min 255 (a.slipCount + 1)) →
      (e < -u.sync.slipLimit ∨ u.sync.slipLimit < e) → (u.latch n).state = .clear →
      ∃ t, exec (.slipPersist n dest payload) s = .next t ∧ exec (.poll n dest payload) s = .next t ∧
        (t.axis n).sync = .faulted ∧ (t.axis n).group = none ∧ (t.latch n).state = .set ∧
        (t.latch n).firstCause = some .slip ∧ (t.latch n).faultFrame = some u.clock.f) ∧
    ((a.sync = .uncoupled ∨ a.sync = .faulted) →
      exec (.lockAcquired n dest payload) s = .next s ∧ exec (.slipPersist n dest payload) s = .next s)

/-- The loss of an UP link by timeout or break (R160, R161, R162): LOST, the record stale, and the cause LINK_LOST for an
axis in a group, or in mode ROAD or SPEED with the clock RUNNING. BREAK (R193) sets the port's receiver waiting, and does
nothing while the part is held in reset (deduced in log 7). LINK_TIMEOUT is an UP link silent for more than the timeout at
a boundary whose check is owed; that the command changes nothing where its check is not owed or the link not silent is the
DESIGN CHOICE of log 4. -/
def Obligations.LinkLoss : Prop :=
  ∀ (s : State) (n : Axis),
    let lost (v : State) : State :=
      let w : State :=
        { v with
          axes := v.axes.set n { v.axis n with stale := true }
          links := v.links.set n { v.link n with state := .lost } }
      if (v.axis n).group.isSome = true ∨
          ((v.axis n).mode = .road ∨ (v.axis n).mode = .speed) ∧ v.clock.state = .running then
        raiseCause w n .linkLost none
      else w
    (Reaction.link n ∈ s.boundary.owed → (s.link n).state = .up → (s.link n).lastPoll + s.linkSettings.timeout < s.clock.f →
      exec (.linkTimeout n) s =
        .next (lost { s with boundary := { s.boundary with owed := s.boundary.owed.filter (· ≠ .link n) } })) ∧
    ((Reaction.link n ∉ s.boundary.owed ∨ (s.link n).state ≠ .up ∨
        s.clock.f ≤ (s.link n).lastPoll + s.linkSettings.timeout) →
      exec (.linkTimeout n) s = .next s) ∧
    (let u := settle s
    (u.heldInReset = true → ∀ p : Port, exec (.lineBreak p) s = .next u) ∧
    (u.heldInReset = false →
      exec (.lineBreak .supervisory) s = .next (u.setReceiver .supervisory .waiting) ∧
      exec (.lineBreak .observer) s = .next (u.setReceiver .observer .waiting) ∧
      ((u.link n).state ≠ .up → exec (.lineBreak (.drive n)) s = .next (u.setReceiver (.drive n) .waiting)) ∧
      ((u.link n).state = .up → exec (.lineBreak (.drive n)) s = .next (lost (u.setReceiver (.drive n) .waiting)))))

/-! ## Axis faults and the safety latch -/

/-- A cause at a clear latch sets it (R167), and the neighbours react in R168's order: the record FAULTED out of its group,
its slip ended and its departure recorded (R88, R103), the pending directive CANCELLED (R110), the AXISn hold placed (R67),
the AXIS_FAULT entry handed, the fault policy acting (R54). At a set latch the cause joins it and disarms it, and nothing
else changes (R169). -/
def Obligations.CauseAtLatch : Prop :=
  ∀ (s : State) (n : Axis) (c : Cause) (code : Option Byte),
    let l := s.latch n
    (l.state = .clear →
      ∃ w,
        w =
          { s with
            axes := w.axes, directives := w.directives, holds := w.holds, latches := w.latches, record := w.record } ∧
        w.latches =
          s.latches.set n
            { l with
              state := .set, firstCause := some c, faultFrame := some s.clock.f
              driveCode := if c = .driveFault then code else none } ∧
        w.axes =
          s.axes.set n { s.axis n with group := none, sync := .faulted, lockCount := 0, slipCount := 0, speedError := 0 } ∧
        w.record = (if (s.axis n).sync = .slipping then (closeSlip s n).record else s.record) ∧
        w.directives =
          { slots :=
              s.directives.slots.set n
                { pending := none
                  outcome := if (s.slot n).pending.isSome = true then .cancelled else (s.slot n).outcome
                  outcomeFrame := if (s.slot n).pending.isSome = true then s.clock.f else (s.slot n).outcomeFrame
                  engaged := (s.slot n).engaged
                  released := if (s.axis n).group.isSome = true then some s.clock.f else (s.slot n).released }
            order :=
              if (s.slot n).pending.isSome = true then s.directives.order.filter (· ≠ n) else s.directives.order
            guards := s.directives.guards } ∧
        (∀ who : Holder,
          w.holds.get who =
            if who = .axis n then
              some
                { scope := .any, placed := s.clock.f, expiry := none
                  reason := match c with
                    | .slip => 1#8
                    | .linkLost => 2#8
                    | .driveFault => 3#8
                    | .miswired => 4#8 }
            else s.holds.get who) ∧
        (let v :=
          handEntry w
            { kind := .axisFault, opened := s.schedule.runFrame, closed := none, axis := some n, holder := none
              cause := some (.fault c) }
        raiseCause s n c code =
          if s.schedule.faultPolicy = .stop ∧ s.schedule.state = .armed then enterAborted v .axisFault
          else if s.schedule.faultPolicy = .stop ∧ (s.schedule.state = .running ∨ s.schedule.state = .dwell) then
            enterStopping v .axisFault
          else v)) ∧
    (l.state = .set →
      raiseCause s n c code =
        { s with
          latches :=
            s.latches.set n
              { l with
                alsoSeen :=
                  { slip := l.alsoSeen.slip || decide (c = .slip)
                    linkLost := l.alsoSeen.linkLost || decide (c = .linkLost)
                    driveFault := l.alsoSeen.driveFault || decide (c = .driveFault)
                    miswired := l.alsoSeen.miswired || decide (c = .miswired) }
                armed := false
                driveCode := if c = .driveFault then code else l.driveCode } })

/-- READ FAULT (R170): a set latch is armed, and nothing else changes. CLEAR FAULT (R171, R172): the checks in their order;
accepted, the latch is CLEAR, the axis UNCOUPLED in no group, and its hold removed. That a request which names no axis 0..3
is answered with the header alone is the DESIGN CHOICE of log 17. -/
def Obligations.FaultRequests : Prop :=
  ∀ (s : State) (i : Nat), portReady (settle s) .supervisory = true →
    let u := settle s
    (4 ≤ i →
      exec (.readFault .supervisor (.fits i)) s = .next (answerStation u .supervisor 0x54#8 .badParam .header) ∧
      exec (.clearFault .supervisor (.fits i)) s = .next (answerStation u .supervisor 0x55#8 .badParam .header)) ∧
    (∀ n : Axis, i = n.val →
      let shown (t : State) : Body := .latch (t.latch n) (t.link n).state (t.axis n).driveStatus
      let cleared (t : State) (code : Code) : Prop :=
        exec (.clearFault .supervisor (.fits i)) s = .next (answerStation t .supervisor 0x55#8 code (shown t))
      (let t : State :=
        if (u.latch n).state = .set then { u with latches := u.latches.set n { u.latch n with armed := true } } else u
      exec (.readFault .supervisor (.fits i)) s = .next (answerStation t .supervisor 0x54#8 .ok (shown t))) ∧
      (((u.latch n).state = .clear ∨ (u.latch n).armed = false) → cleared u .notArmed) ∧
      ((u.latch n).state = .set → (u.latch n).armed = true →
        ((u.link n).state ≠ .up ∨ (u.axis n).driveStatus = some .fault) → cleared u .conditionPresent) ∧
      ((u.latch n).state = .set → (u.latch n).armed = true → (u.link n).state = .up →
        (u.axis n).driveStatus ≠ some .fault →
        ∃ t, cleared t .ok ∧ t = { u with latches := t.latches, axes := t.axes, holds := t.holds } ∧
          t.latches =
            u.latches.set n
              { state := .clear, firstCause := none, faultFrame := none, alsoSeen := ⟨false, false, false, false⟩
                driveCode := none, armed := false, lastClear := some u.clock.f } ∧
          t.axes =
            u.axes.set n
              { u.axis n with group := none, sync := .uncoupled, lockCount := 0, slipCount := 0, speedError := 0 } ∧
          ∀ who : Holder, t.holds.get who = if who = .axis n then none else u.holds.get who))

/-- ACK SAFE STOP (R176): SAFE_LATCHED becomes NORMAL; refused in SAFE_ASSERTED and in NORMAL; NOT_PERMITTED from an
observer. The answer shows the latch after the request and the level as last recognised. -/
def Obligations.AckSafeStopResult : Prop :=
  ∀ s : State,
    let u := settle s
    (portReady u .supervisory = true →
      let answered (t : State) (code : Code) : Prop :=
        exec (.ackSafeStop .supervisor (.fits ())) s =
          .next (answerStation t .supervisor 0x58#8 code (.safety t.safety t.safeStopAsserted))
      (u.safety = .safeLatched → answered { u with safety := .normal } .ok) ∧
      (u.safety = .safeAsserted → answered u .conditionPresent) ∧
      (u.safety = .normal → answered u .refusedState)) ∧
    (∀ src : Sender, src ≠ .supervisor → portReady u (portOf src) = true →
      exec (.ackSafeStop src (.fits ())) s = .next (answerStation u src 0x58#8 .notPermitted .header))

/-- The SAFE-STOP line (R174, R175). A recognised assertion sets the latch, aborts an active run (R55), releases every grouped
axis with its departure (R87, R103) and cancels every pending directive (R112), unless the latch is SAFE_ASSERTED already; a
deassertion takes SAFE_ASSERTED to SAFE_LATCHED alone. That no change of the line is recognised while the part is held in
reset is deduced in log 7. -/
def Obligations.SafeStopLine : Prop :=
  ∀ s : State,
    let u := settle s
    (u.heldInReset = true → exec .safeStopAssert s = .next u ∧ exec .safeStopDeassert s = .next u) ∧
    (u.heldInReset = false →
      exec .safeStopDeassert s = .next
        { u with
          safety := if u.safety = .safeAsserted then .safeLatched else u.safety
          safeStopAsserted := false } ∧
      (u.safety = .safeAsserted → exec .safeStopAssert s = .next { u with safeStopAsserted := true }) ∧
      (u.safety ≠ .safeAsserted →
        ∃ t, exec .safeStopAssert s = .next t ∧
          t =
            { u with
              safety := .safeAsserted, safeStopAsserted := true, schedule := t.schedule, road := t.road
              record := t.record, axes := t.axes, directives := t.directives } ∧
          (u.runActive = true →
            t.schedule = (enterAborted u .safeStop).schedule ∧ t.road = (enterAborted u .safeStop).road ∧
            t.record = (enterAborted u .safeStop).record) ∧
          (u.runActive = false →
            t.schedule = u.schedule ∧ t.road = u.road ∧
            (u.record.slipRef = .all none → t.record = u.record)) ∧
          (∀ n : Axis, t.axis n =
            if (u.axis n).group.isSome = true then
              { u.axis n with group := none, sync := .uncoupled, lockCount := 0, slipCount := 0, speedError := 0 }
            else u.axis n) ∧
          (∀ n : Axis, t.slot n =
            { pending := none
              outcome := if (u.slot n).pending.isSome = true then .cancelled else (u.slot n).outcome
              outcomeFrame := if (u.slot n).pending.isSome = true then u.clock.f else (u.slot n).outcomeFrame
              engaged := (u.slot n).engaged
              released := if (u.axis n).group.isSome = true then some u.clock.f else (u.slot n).released }) ∧
          t.directives.guards = u.directives.guards ∧
          t.directives.order = u.directives.order.filter fun n => (u.slot n).pending.isNone))

/-! ## The run record and the reads -/

/-- Entries of the exception list (R182, R183, R184, R185): placed at the end while fewer than 32 stand there, else lost
with the overflow flag set; handed entries and opened episodes only while a run is active; an opened episode keeps its
position; the end of a run closes at its run frame every episode with a reference and no other entry. -/
def Obligations.RunRecordEntries : Prop :=
  ∀ (s : State) (e : ExceptionEntry) (n : Axis) (kind : ExceptionKind),
    let placed (x : ExceptionEntry) : RunRecord :=
      if s.record.exceptions.length < 32 then { s.record with exceptions := s.record.exceptions ++ [x] }
      else { s.record with exceptionOverflow := true }
    let opening (k : ExceptionKind) (axis : Option Axis) : ExceptionEntry :=
      { kind := k, opened := s.schedule.runFrame, closed := none, axis := axis, holder := none, cause := none }
    let position : Nat := s.record.exceptions.length + 1
    let active : Prop :=
      s.schedule.state = .armed ∨ s.schedule.state = .running ∨ s.schedule.state = .dwell ∨ s.schedule.state = .stopping
    placeEntry s e = { s with record := placed e } ∧
    (active → handEntry s e = { s with record := placed e }) ∧
    (¬ active → handEntry s e = s ∧ openDwell s kind = s ∧ openSlip s n = s ∧ openTrace s = s) ∧
    (active → s.record.exceptions.length < 32 →
      openDwell s kind = { s with record := { placed (opening kind none) with dwellRef := some position } } ∧
      openSlip s n =
        { s with
          record := { placed (opening .slip (some n)) with slipRef := s.record.slipRef.set n (some position) } } ∧
      openTrace s = { s with record := { placed (opening .traceDeviation none) with traceRef := some position } }) ∧
    (active → 32 ≤ s.record.exceptions.length →
      openDwell s kind = { s with record := placed (opening kind none) } ∧
      openSlip s n = { s with record := placed (opening .slip (some n)) } ∧
      openTrace s = { s with record := placed (opening .traceDeviation none) }) ∧
    (let closing (positions : List (Option Nat)) (x : List ExceptionEntry) : Prop :=
      ∀ i : Nat, x[i]? = (s.record.exceptions[i]?).map fun entry =>
        if some (i + 1) ∈ positions then { entry with closed := some s.schedule.runFrame } else entry
    let every : List (Option Nat) :=
      [s.record.dwellRef, s.record.traceRef, s.record.slipRef.get 0, s.record.slipRef.get 1, s.record.slipRef.get 2,
        s.record.slipRef.get 3]
    (∀ p ∈ every, p ≠ some 0) →
      (∃ x, closeDwell s = { s with record := { s.record with exceptions := x, dwellRef := none } } ∧
        closing [s.record.dwellRef] x) ∧
      (∃ x, closeSlip s n =
          { s with record := { s.record with exceptions := x, slipRef := s.record.slipRef.set n none } } ∧
        closing [s.record.slipRef.get n] x) ∧
      (∃ x, closeTrace s = { s with record := { s.record with exceptions := x, traceRef := none } } ∧
        closing [s.record.traceRef] x) ∧
      (∃ x, closeEpisodes s =
          { s with
            record := { s.record with exceptions := x, dwellRef := none, slipRef := .all none, traceRef := none } } ∧
        closing every x))

/-- The reads (R90, R186, R187, R196, R197, R198) answer what stands in the state and change nothing; observers may send
all but READ AXIS. A READ AXIS that names no axis 0..3 is answered with the header alone (log 17: DESIGN CHOICE), and a
refused READ RECORD with the summary and no entry (log 17: deduced). PREVIEW shows the active segment's kind and target speed
without its duration (R57), and of a STAND no target speed (log 28: deduced from R16). -/
def Obligations.ReadsResult : Prop :=
  ∀ (s : State) (src : Sender), portReady (settle s) (portOf src) = true →
    let u := settle s
    let answered (c : Instr) (kind : Byte) (code : Code) (body : Body) : Prop :=
      exec c s = .next (answerStation u src kind code body)
    (src = .supervisor →
      (∀ i : Nat, 4 ≤ i → answered (.readAxis src (.fits i)) 0x42#8 .badParam .header) ∧
      (∀ n : Axis, answered (.readAxis src (.fits n.val)) 0x42#8 .ok
        (.axis
          { record := u.axis n, reference := reference u n, groupAcceleration := groupAcceleration u n
            correction := correction u n, pending := (u.slot n).pending, outcome := (u.slot n).outcome
            outcomeFrame := (u.slot n).outcomeFrame, link := (u.link n).state, limit := (u.link n).limit }))) ∧
    (let summary : RunSummary :=
      { state := u.record.state, startFrame := u.schedule.startFrame, runFrames := u.schedule.runFrame
        distance := u.schedule.distance / 3600, totalDwell := u.schedule.totalDwell, endCause := u.schedule.stopCause
        phaseCount := u.record.phases.length, exceptionCount := u.record.exceptions.length
        phaseOverflow := u.record.phaseOverflow, exceptionOverflow := u.record.exceptionOverflow }
    let read (selector : RecordSelector) (code : Code) (item : RecordItem) : Prop :=
      answered (.readRecord src (.fits selector)) 0x5C#8 code (.record summary item)
    read .summary .ok .summaryOnly ∧ read .other .badParam .summaryOnly ∧
    read (.phase none) .badParam .summaryOnly ∧ read (.exception none) .badParam .summaryOnly ∧
    (∀ i : Nat, (i = 0 ∨ 16 < i) → read (.phase (some i)) .badRange .summaryOnly) ∧
    (∀ i : Nat, (i = 0 ∨ 32 < i) → read (.exception (some i)) .badRange .summaryOnly) ∧
    (∀ i : Nat, i < 16 →
      read (.phase (some (i + 1))) .ok (match u.record.phases[i]? with
        | some e => .phase e
        | none => .absent)) ∧
    (∀ i : Nat, i < 32 →
      read (.exception (some (i + 1))) .ok (match u.record.exceptions[i]? with
        | some e => .exception e
        | none => .absent))) ∧
    answered (.status src (.fits ())) 0x60#8 .ok
      (.status
        { clock := u.clock.state, n := u.clock.n, schedule := u.schedule.state
          queue :=
            { count := u.queue.records.length, expected := u.queue.expected, tailSpeed := tailSpeed u
              closed := u.queue.closed, low := u.queue.low }
          lowWaterMark := u.queue.lowWaterMark, safety := u.safety, safeStopAsserted := u.safeStopAsserted
          holds :=
            [Holder.external .supervisor, .external .sampler, .external .driverAid, .axis 0, .axis 1, .axis 2,
              .axis 3].filterMap fun who => (u.holds.get who).map fun e =>
                { holder := who, scope := e.scope, reason := e.reason, placed := e.placed, expiry := shownFrame e.expiry }
          links := ⟨(u.link 0).state, (u.link 1).state, (u.link 2).state, (u.link 3).state⟩
          faults := ⟨(u.latch 0).state, (u.latch 1).state, (u.latch 2).state, (u.latch 3).state⟩
          activeBank := activeBank u.road, pendingSelection := u.road.pendingSelection }) ∧
    (let axis (n : Axis) : ShownAxis :=
      { measuredSpeed := (u.axis n).measuredSpeed, sync := (u.axis n).sync, fault := decide ((u.latch n).state = .set) }
    answered (.snapshot src (.fits ())) 0x61#8 .ok
      (.snapshot
        { runFrame := u.schedule.runFrame, schedule := u.schedule.state
          segment := u.schedule.active.map fun a => (a.record.number, a.record.duration - a.elapsed)
          virtualSpeed := u.schedule.virtualSpeed, distance := u.schedule.distance / 3600
          currentPhase := u.schedule.currentPhase
          holds :=
            [Holder.external .supervisor, .external .sampler, .external .driverAid, .axis 0, .axis 1, .axis 2,
              .axis 3].map fun who =>
                { holder := who, held := (u.holds.get who).map fun e => (e.scope, shownFrame e.expiry) }
          axes := ⟨axis 0, axis 1, axis 2, axis 3⟩ })) ∧
    answered (.preview src (.fits ())) 0x62#8 .ok
      (.preview
        (u.schedule.active.map fun a =>
          { number := a.record.number, framesLeft := a.record.duration - a.elapsed
            kind := match a.record.kind with
              | .ramp target _ => .ramp target
              | .stand _ => .stand
              | .closing => .closing })
        u.queue.records.length
        ((u.queue.records.take 8).map fun g =>
          { number := g.number, kind := g.kind, phase := g.phase, directiveCount := g.directives.length
            autoRelease := g.autoRelease }))

/-! ## The receivers -/

/-- BYTE_ARRIVAL, TEAR, ANSWER_SENT and LINE_IDLE (R191, R192, R194) on a port's receiver, nothing happening while the part is
held in reset (R13; log 7). A message that is complete when the line falls idle is discarded where its check does not match,
and otherwise does what its own row does: its contents are read from its payload bytes (log 8). The wait for the line to
fall quiet as a part of RECEIVING of its own, a LINE_IDLE on an incomplete message standing for its tear as well, and a
LINE_IDLE during an answer being ignored are deduced in log 20. -/
def Obligations.ReceiverEvents : Prop :=
  ∀ (s : State) (p : Port) (b : Byte),
    let u := settle s
    let becomes (c : Instr) (r : Receiver) : Prop := exec c s = .next (u.setReceiver p r)
    let complete (bytes : List Byte) : Prop :=
      ∃ (address kind len : Byte) (rest : List Byte),
        bytes = address :: kind :: len :: rest ∧ rest.length = len.toNat + 2
    (u.heldInReset = true →
      exec (.byteArrival p b) s = .next u ∧ exec (.tear p) s = .next u ∧ exec (.answerSent p) s = .next u ∧
      exec (.lineIdle p) s = .next u) ∧
    (u.heldInReset = false →
      (u.receiver p = .idle →
        becomes (.byteArrival p b) (.receiving [b]) ∧ exec (.tear p) s = .next u ∧ exec (.answerSent p) s = .next u ∧
        exec (.lineIdle p) s = .next u) ∧
      (u.receiver p = .waiting →
        exec (.byteArrival p b) s = .next u ∧ exec (.tear p) s = .next u ∧ exec (.answerSent p) s = .next u ∧
        becomes (.lineIdle p) .idle) ∧
      (∀ a : Answer, u.receiver p = .answering a →
        exec (.byteArrival p b) s = .next u ∧ exec (.tear p) s = .next u ∧ becomes (.answerSent p) .waiting ∧
        exec (.lineIdle p) s = .next u) ∧
      (∀ bytes : List Byte, u.receiver p = .receiving bytes →
        exec (.answerSent p) s = .next u ∧
        (complete bytes →
          becomes (.byteArrival p b) .waiting ∧ exec (.tear p) s = .next u ∧
          ∀ (address kind : Byte) (payload : List Byte) (c1 c0 : Byte),
            bytes = [address, kind, byteOf payload.length] ++ payload ++ [c1, c0] → payload.length ≤ 240 →
            let covered := [address, kind, byteOf payload.length] ++ payload
            ((crc covered).toNat ≠ 256 * c1.toNat + c0.toNat → becomes (.lineIdle p) .idle) ∧
            ((crc covered).toNat = 256 * c1.toNat + c0.toNat →
              let row (c : Instr) : Prop := exec (.lineIdle p) s = exec c (u.setReceiver p .idle)
              (portTakes p address = false → row (.addressIgnored p address)) ∧
              (portTakes p address = true → linkCarries p kind = false → row (.unknownRequest p address kind)) ∧
              (∀ n dest : Axis, p = .drive n → address = driveAddress dest →
                (kind = 0x70#8 → row (.hello n dest payload)) ∧ (kind = 0x71#8 → row (.poll n dest payload))) ∧
              (∀ src : Sender, p = portOf src → address = addressOf src →
                ∀ request ∈
                  [(0x01#8, Instr.setClock src (Config.setClockContents payload)),
                    (0x02#8, .clockStart src (noParameters payload)), (0x03#8, .clockHalt src (noParameters payload)),
                    (0x08#8, .reset src (noParameters payload)), (0x20#8, .append src payload),
                    (0x21#8, .loadBlock src payload), (0x22#8, .flush src (noParameters payload)),
                    (0x24#8, .startRun src (noParameters payload)), (0x25#8, .abortRun src (noParameters payload)),
                    (0x26#8, .closeRun src (noParameters payload)),
                    (0x27#8, .setRun src (Config.setRunContents payload)),
                    (0x30#8, .hold src (Config.holdContents payload)), (0x31#8, .release src (noParameters payload)),
                    (0x32#8, .releaseHolder src (Config.releaseHolderContents payload)),
                    (0x40#8, .setAxis src (Config.setAxisContents payload)),
                    (0x41#8, .setSync src (Config.setSyncContents payload)),
                    (0x42#8, .readAxis src (Config.readAxisContents payload)),
                    (0x44#8, .couple src (Config.coupleContents payload)),
                    (0x45#8, .setGuards src (Config.setGuardsContents payload)),
                    (0x48#8, .setBands src (Config.setBandsContents payload)),
                    (0x49#8, .setLoss src (Config.setLossContents payload)),
                    (0x4C#8, .loadBank src (Config.loadBankContents payload)),
                    (0x4D#8, .selectBank src (Config.selectBankContents payload)),
                    (0x50#8, .setLinks src (Config.setLinksContents payload)),
                    (0x54#8, .readFault src (Config.readFaultContents payload)),
                    (0x55#8, .clearFault src (Config.clearFaultContents payload)),
                    (0x58#8, .ackSafeStop src (noParameters payload)),
                    (0x5C#8, .readRecord src (Config.readRecordContents payload)),
                    (0x60#8, .status src (noParameters payload)), (0x61#8, .snapshot src (noParameters payload)),
                    (0x62#8, .preview src (noParameters payload))],
                  kind = request.1 → row request.2))) ∧
        (¬ complete bytes →
          becomes (.tear p) .waiting ∧ becomes (.lineIdle p) .idle ∧
          becomes (.byteArrival p b)
            (if bytes.length = 2 ∧ 240 < b.toNat then .waiting else .receiving (bytes ++ [b])))))

/-! ## The frame boundary -/

/-- FRAME_BOUNDARY (R3, R7, R9, R47): while the clock runs below its limit, F advances, the frame position is 0, FRAME MARK is
active, the run frame counts, and every block owes its reaction; a boundary with no reaction left over is taken in full, and
at the frame limit the clock then halts. With the clock HALTED, at the limit, or in reset, no boundary occurs. DESIGN CHOICE:
the operands order and left and the owed reactions (log 3), and a boundary whatever the frame position (log 11); that a
RUNNING clock at the limit has no further boundary is deduced in log 19, and that the part in reset has none in log 7. -/
def Obligations.BoundaryAdvance : Prop :=
  ∀ s : State,
    let u := settle s
    let occurs : Prop := u.clock.state = .running ∧ u.heldInReset = false ∧ u.clock.f < 4294967295
    let all : List Reaction :=
      [.schedule, .directives, .holds, .link 0, .link 1, .link 2, .link 3, .trace, .limit]
    (¬ occurs → ∀ order left : List Reaction, exec (.frameBoundary order left) s = .next u) ∧
    (occurs →
      exec (.frameBoundary [] all) s = .next
        { u with
          clock := { u.clock with f := u.clock.f + 1, position := some 0, frameMark := true }
          boundary := { owed := all, foundActive := u.runActive }
          schedule :=
            { u.schedule with
              runFrame :=
                match u.schedule.startFrame, u.schedule.state with
                | some f0, .running | some f0, .dwell | some f0, .stopping => u.clock.f + 1 - f0
                | _, _ => u.schedule.runFrame } } ∧
      ∀ order left : List Reaction, ∃ t, exec (.frameBoundary order left) s = .next t ∧
        t.clock.f = u.clock.f + 1 ∧ t.clock.n = u.clock.n ∧ t.clock.frameMark = true ∧
        (left = [] → t.boundary.owed = []) ∧
        (u.clock.f + 1 < 4294967295 → t.clock.state = .running ∧ t.clock.position = some 0) ∧
        (u.clock.f + 1 = 4294967295 → left = [] →
          t.clock.state = .halted ∧ t.clock.position = none ∧ t.runActive = false))

/-- The engine's reaction to a boundary (R37), the other blocks' being left: none in IDLE, ENDED and ABORTED, nor in ARMED at
a shut gate; a running segment short of its end follows its line (R42); a dwell below its limit counts at a shut gate
(R45); the stopping ramp falls (R49); the distance of the frame is added (R46), and the phase mark lines go inactive (R10).
A FRAME_BOUNDARY that leaves the other blocks' reactions owed is the DESIGN CHOICE of log 3, and that it comes at any frame
position that of log 11; what it leaves for the Trace Monitor is deduced in log 16. -/
def Obligations.EngineReaction : Prop :=
  ∀ s : State,
    let u := settle s
    u.clock.state = .running → u.heldInReset = false → u.clock.f < 4294967295 →
    let left : List Reaction := [.directives, .holds, .link 0, .link 1, .link 2, .link 3, .trace, .limit]
    let f := u.clock.f + 1
    let begun : Schedule :=
      { u.schedule with
        runFrame :=
          match u.schedule.startFrame, u.schedule.state with
          | some f0, .running | some f0, .dwell | some f0, .stopping => f - f0
          | _, _ => u.schedule.runFrame }
    let now : State := { u with clock := { u.clock with f := f } }
    let leaves (x : Schedule) : Prop :=
      exec (.frameBoundary [] left) s = .next
        { u with
          clock :=
            { u.clock with
              f := f, position := some 0, frameMark := true, lines := ⟨false, false, false, false⟩, lineHold := none }
          boundary := { owed := left, foundActive := u.runActive }
          schedule := x
          trace := { u.trace with leftState := x.state, leftSpeed := x.virtualSpeed } }
    let far (v : Int) : Nat := u.schedule.distance + (v * ((u.clock.n : Int) + 1)).toNat
    ((u.schedule.state = .idle ∨ u.schedule.state = .ended ∨ u.schedule.state = .aborted ∨
        u.schedule.state = .armed ∧ gateOpen now = false) →
      leaves begun) ∧
    (∀ a : ActiveSegment, u.schedule.state = .running → u.schedule.active = some a → a.elapsed + 1 < a.record.duration →
      let v : Int :=
        a.startSpeed +
          ((a.record.endSpeed - a.startSpeed) * ((a.elapsed : Int) + 1)).tdiv (a.record.duration : Int)
      leaves
        { begun with
          virtualSpeed := v, active := some { a with elapsed := a.elapsed + 1 }, distance := far v }) ∧
    (u.schedule.state = .dwell → gateOpen now = false → u.schedule.dwellCount + 1 < u.schedule.dwellLimit →
      leaves
        { begun with
          dwellCount := u.schedule.dwellCount + 1, totalDwell := u.schedule.totalDwell + 1
          distance := far u.schedule.virtualSpeed }) ∧
    (u.schedule.state = .stopping → u.schedule.stopDeceleration < u.schedule.virtualSpeed →
      let v : Int := u.schedule.virtualSpeed - u.schedule.stopDeceleration
      leaves { begun with virtualSpeed := v, distance := far v })

/-- SEGMENT_START and END_TAKEN where the engine's reaction is owed and its gate, in ARMED, in DWELL or at a segment's end, is
open on a RAMP or STAND, or on an END (R38, R40, R41). The start takes the head (R29), keeps the virtual speed, which at a
segment's end is that segment's end speed, closes a dwell (R45, R184), applies or drops the pending selection, with a
BANK_EMPTY entry (R134, R182), places the ended segment's auto-releases (R44, R100) and then its own items (R99), drives the
phase mark lines (R10) and enters its phase (R181). That the two commands take the engine's whole owed reaction, a
segment's end included, is the DESIGN CHOICE of log 4; the order of a start's four effects is deduced in log 21. -/
def Obligations.HeadTaken : Prop :=
  ∀ (s : State) (g : Segment) (rest : List Segment), Reaction.schedule ∈ s.boundary.owed →
    s.queue.records = g :: rest → gateOpen s = true →
    (s.schedule.state = .armed ∨ s.schedule.state = .dwell ∨
      s.schedule.state = .running ∧
        ∃ a, s.schedule.active = some a ∧ 1 ≤ a.record.duration ∧ a.record.duration ≤ a.elapsed + 1) →
    let v : Int := match s.schedule.state, s.schedule.active with
      | .running, some a => a.record.endSpeed
      | _, _ => s.schedule.virtualSpeed
    let released : DirectiveUnit := match s.schedule.state, s.schedule.active with
      | .running, some a => releasesPlaced s a.record
      | _, _ => s.directives
    let frame (t : State) : Prop :=
      t =
        { s with
          clock := t.clock, boundary := t.boundary, queue := t.queue, schedule := t.schedule, directives := t.directives
          road := t.road, record := t.record, trace := t.trace } ∧
      t.boundary = { s.boundary with owed := s.boundary.owed.filter (· ≠ .schedule) } ∧
      t.queue =
        { s.queue with records := rest, low := decide (rest.length ≤ s.queue.lowWaterMark) } ∧
      t.trace = { s.trace with leftState := t.schedule.state, leftSpeed := t.schedule.virtualSpeed }
    (g.kind ≠ .closing →
      ∃ t, exec .segmentStart s = .next t ∧ frame t ∧
        t.schedule =
          { s.schedule with
            state := .running
            active := some { record := g, startSpeed := v, startFrame := s.clock.f, elapsed := 0 }
            virtualSpeed := v
            distance := s.schedule.distance + (v * ((s.clock.n : Int) + 1)).toNat
            dwellCount := 0
            startFrame := some (s.schedule.startFrame.getD s.clock.f)
            currentPhase := match g.phase with
              | some p => some p.number
              | none => s.schedule.currentPhase } ∧
        t.clock =
          { s.clock with
            lines := match g.phase with
              | some p => p.lines
              | none => ⟨false, false, false, false⟩
            lineHold := none } ∧
        (let dwellClosed : RunRecord :=
          { (if s.schedule.state = .dwell then (closeDwell s).record else s.record) with state := .running }
        let selected : RunRecord := match s.road.pendingSelection with
          | none => dwellClosed
          | some name =>
            if (match name with
              | .a => s.road.bankA
              | .b => s.road.bankB) = .empty then
              if dwellClosed.exceptions.length < 32 then
                { dwellClosed with
                  exceptions :=
                    dwellClosed.exceptions ++
                      [{ kind := .bankEmpty, opened := s.schedule.runFrame, closed := none, axis := none, holder := none
                         cause := some (.bank name) }] }
              else { dwellClosed with exceptionOverflow := true }
            else dwellClosed
        t.record = match g.phase with
          | none => selected
          | some p =>
            if s.record.phases.length < 16 then
              { selected with
                phases :=
                  s.record.phases ++
                    [{ phase := p.number, segment := g.number, runFrame := s.schedule.runFrame
                       distance := t.schedule.distance / 3600 }] }
            else { selected with phaseOverflow := true }) ∧
        (let standDown (b : Bank) : Bank := match b with
          | .active d => .loaded d
          | .loaded d => .loaded d
          | .empty => .empty
        t.road = match s.road.pendingSelection, s.road.bankA, s.road.bankB with
          | some .a, .loaded c, other => { bankA := .active c, bankB := standDown other, pendingSelection := none }
          | some .b, other, .loaded c => { bankA := standDown other, bankB := .active c, pendingSelection := none }
          | _, _, _ => { s.road with pendingSelection := none }) ∧
        t.directives = itemsPlaced s released g.directives) ∧
    (g.kind = .closing →
      ∃ t, exec .endTaken s = .next t ∧ frame t ∧
        t.schedule =
          { s.schedule with
            state := .ended, active := none, virtualSpeed := 0, dwellCount := 0, stopCause := none } ∧
        t.clock = { s.clock with lines := ⟨false, false, false, false⟩, lineHold := none } ∧
        t.road = { s.road with pendingSelection := none } ∧
        t.record = { (closeEpisodes s).record with state := .ended } ∧
        t.directives = released)

/-- SEGMENT_END (R44, R100): a running segment whose elapsed count reaches its duration, the engine's reaction owed. At a
shut gate the schedule enters DWELL at the segment's end speed with its episode by cause, and an auto-release places a
release for every grouped axis, each joining the end of the placement order in ascending axis number; at an open gate the
event is that of the head taken. That the command takes the engine's owed reaction, and is at an open gate the very
SEGMENT_START or END_TAKEN, is the DESIGN CHOICE of log 4. -/
def Obligations.SegmentEnd : Prop :=
  ∀ (s : State) (a : ActiveSegment), Reaction.schedule ∈ s.boundary.owed → s.schedule.state = .running →
    s.schedule.active = some a → 1 ≤ a.record.duration → a.record.duration ≤ a.elapsed + 1 →
    (∀ (g : Segment) (rest : List Segment), gateOpen s = true → s.queue.records = g :: rest →
      exec .segmentEnd s = if g.kind = .closing then exec .endTaken s else exec .segmentStart s) ∧
    (gateOpen s = false →
      let v : Int := a.record.endSpeed
      exec .segmentEnd s = .next
        { s with
          clock := { s.clock with lines := ⟨false, false, false, false⟩, lineHold := none }
          boundary := { s.boundary with owed := s.boundary.owed.filter (· ≠ .schedule) }
          schedule :=
            { s.schedule with
              state := .dwell, active := none, virtualSpeed := v, dwellCount := 0
              distance := s.schedule.distance + (v * ((s.clock.n : Int) + 1)).toNat }
          directives := releasesPlaced s a.record
          record :=
            { (openDwell s (if s.queue.records = [] then .underrunDwell else .holdDwell)).record with state := .dwell }
          trace := { s.trace with leftState := .dwell, leftSpeed := v } }) ∧
    (a.record.autoRelease = false → releasesPlaced s a.record = s.directives) ∧
    (a.record.autoRelease = true → s.safety = .normal →
      (∀ n : Axis, (s.axis n).group.isSome = true → (s.latch n).state = .clear) →
      let grouped : List Axis := [0, 1, 2, 3].filter fun n => (s.axis n).group.isSome
      (releasesPlaced s a.record).order = s.directives.order.filter (fun n => decide (n ∉ grouped)) ++ grouped ∧
      (releasesPlaced s a.record).guards = s.directives.guards ∧
      ∀ n : Axis,
        (releasesPlaced s a.record).slots.get n =
          if (s.axis n).group.isSome = true then
            { s.slot n with
              pending := some { action := .release, placed := s.clock.f }, outcome := .deferred, outcomeFrame := s.clock.f }
          else s.slot n)

/-- DWELL_LIMIT (R45, R50) and STOP_COMPLETE (R49, R51, R185), the engine's reaction being owed: a dwell that reaches its
limit at a shut gate enters STOPPING; a stopping ramp that reaches 0 enters ABORTED with its stop cause kept. That the two
commands take the owed reaction is the DESIGN CHOICE of log 4, and that the dwell count keeps its value in STOPPING is
deduced in log 13. -/
def Obligations.DwellLimitAndStopComplete : Prop :=
  ∀ s : State, Reaction.schedule ∈ s.boundary.owed →
    let base : State :=
      { s with
        clock := { s.clock with lines := ⟨false, false, false, false⟩, lineHold := none }
        boundary := { s.boundary with owed := s.boundary.owed.filter (· ≠ .schedule) } }
    (s.schedule.state = .dwell → gateOpen s = false → s.schedule.dwellLimit ≤ s.schedule.dwellCount + 1 →
      exec .dwellLimit s = .next
        { base with
          schedule :=
            { s.schedule with
              state := .stopping, active := none, stopCause := some .dwellLimit
              dwellCount := s.schedule.dwellCount + 1, totalDwell := s.schedule.totalDwell + 1
              distance := s.schedule.distance + (s.schedule.virtualSpeed * ((s.clock.n : Int) + 1)).toNat }
          record :=
            { (placeEntry (closeDwell s)
                { kind := .runStop, opened := s.schedule.runFrame, closed := none, axis := none, holder := none
                  cause := some (.stop .dwellLimit) }).record with
              state := .stopping }
          trace := { s.trace with leftState := .stopping, leftSpeed := s.schedule.virtualSpeed } }) ∧
    (s.schedule.state = .stopping → s.schedule.virtualSpeed ≤ s.schedule.stopDeceleration →
      exec .stopComplete s = .next
        { base with
          schedule := { s.schedule with state := .aborted, active := none, virtualSpeed := 0, dwellCount := 0 }
          road := { s.road with pendingSelection := none }
          record := { (closeEpisodes s).record with state := .aborted }
          trace := { s.trace with leftState := .aborted, leftSpeed := 0 } })

/-- HOLD_EXPIRY (R69, R70, R183): every entry whose expiry frame is F is removed and no other; where the boundary found the
run active each gives a HOLD_EXPIRED entry, in the fixed holder order, as far as the list has room. That the command takes
the Hold Set's owed reaction is the DESIGN CHOICE of log 4. Where a HOLD with a duration of 1 was taken before the boundary,
its entry is removed too (log 26: DESIGN CHOICE between R69 and R63). -/
def Obligations.HoldExpiryResult : Prop :=
  ∀ (s : State) (who : Holder) (e : HoldEntry), Reaction.holds ∈ s.boundary.owed → s.holds.get who = some e →
    e.expiry = some s.clock.f →
    ∃ t, exec .holdExpiry s = .next t ∧
      t =
        { s with
          boundary := { s.boundary with owed := s.boundary.owed.filter (· ≠ .holds) }, holds := t.holds
          record := t.record } ∧
      (∀ x : Holder,
        t.holds.get x = (s.holds.get x).filter fun entry => decide (entry.expiry ≠ some s.clock.f)) ∧
      (s.boundary.foundActive = false → t.record = s.record) ∧
      (s.boundary.foundActive = true → s.record.exceptions.length ≤ 32 →
        let expired (x : Holder) (named : Option Sender) : List ExceptionEntry :=
          match s.holds.get x with
          | some entry =>
            if entry.expiry = some s.clock.f then
              [{ kind := .holdExpired, opened := s.schedule.runFrame, closed := none, axis := none, holder := named
                 cause := some (.reason entry.reason) }]
            else []
          | none => []
        let entries : List ExceptionEntry :=
          expired (.external .supervisor) (some .supervisor) ++ expired (.external .sampler) (some .sampler) ++
            expired (.external .driverAid) (some .driverAid) ++ expired (.axis 0) none ++ expired (.axis 1) none ++
            expired (.axis 2) none ++ expired (.axis 3) none
        t.record =
          { s.record with
            exceptions := (s.record.exceptions ++ entries).take 32
            exceptionOverflow :=
              s.record.exceptionOverflow || decide (32 < s.record.exceptions.length + entries.length) })

/-- The application of directives at a boundary. The placement checks are R96's, in their order. A pending directive is
considered from the first boundary after its placement, by R105's five steps: the placement checks again, redundancy, the
guards, the drive brake (R108), the application (R106 with R87, R107 with R86). The reaction considers every release, then
the engages in one pass in placement order, each against the histories as the pass has left them (R106, R107); that the
releases come first, in axis order, shows nowhere (R106). APPLY_RELEASE and APPLY_ENGAGE are that reaction, taken where it
applies the directive of the axis they name, which is the DESIGN CHOICE of log 4. -/
def Obligations.DirectivesApplied : Prop :=
  (∀ (s : State) (n : Axis) (action : Action),
    placementRefusal s n action =
      if s.safety ≠ .normal then some .refusedSafe
      else if (s.latch n).state = .set then some .refusedFault
      else if action = .release then none
      else if (s.axis n).mode ≠ .road then some .refusedMode
      else if (s.link n).state ≠ .up then some .refusedLink
      else if (s.axis n).group.isSome = true ∧ (s.axis n).group.map Action.engage ≠ some action then some .refusedEngaged
      else none) ∧
  (∀ (s : State) (n : Axis),
    let concluded (t : State) (o : DirectiveOutcome) : State :=
      { t with
        directives :=
          { t.directives with
            slots := t.directives.slots.set n { t.slot n with pending := none, outcome := o, outcomeFrame := t.clock.f }
            order := t.directives.order.filter (· ≠ n) } }
    let left : State :=
      if (s.axis n).group.isSome = true then
        { s with
          record := if (s.axis n).sync = .slipping then (closeSlip s n).record else s.record
          axes :=
            s.axes.set n
              { s.axis n with group := none, sync := .uncoupled, lockCount := 0, slipCount := 0, speedError := 0 }
          directives :=
            { s.directives with slots := s.directives.slots.set n { s.slot n with released := some s.clock.f } } }
      else s
    let joined (g : Group) : State :=
      { s with
        axes :=
          s.axes.set n
            { s.axis n with group := some g, sync := .acquiring, lockCount := 0, slipCount := 0, speedError := 0 }
        directives :=
          { s.directives with slots := s.directives.slots.set n { s.slot n with engaged := some s.clock.f } } }
    ((s.slot n).pending = none → considerDirective s n = s) ∧
    ∀ d : Directive, (s.slot n).pending = some d →
      (s.clock.f ≤ d.placed → considerDirective s n = s) ∧
      (d.placed < s.clock.f →
        (∀ o : DirectiveOutcome, placementRefusal s n d.action = some o → considerDirective s n = concluded s o) ∧
        (placementRefusal s n d.action = none →
          let changesNothing : Prop := match d.action with
            | .engage g => (s.axis n).group = some g
            | .release => (s.axis n).sync = .uncoupled
          (changesNothing → considerDirective s n = concluded s .redundant) ∧
          (¬ changesNothing →
            (∀ e : Nat, earliestFrame s n d.action = some e → s.clock.f < e → considerDirective s n = s) ∧
            ((∀ e : Nat, earliestFrame s n d.action = some e → e ≤ s.clock.f) →
              (d.action = .release → considerDirective s n = concluded left .applied) ∧
              ∀ g : Group, d.action = .engage g →
                considerDirective s n =
                  if (s.axis n).driveStatus = some .brakeSet then s else concluded (joined g) .applied))))) ∧
  (∀ s : State,
    let releases : State :=
      ([0, 1, 2, 3] : List Axis).foldl
        (fun t n =>
          if (t.slot n).pending.map (fun d => d.action) = some .release then considerDirective t n else t)
        s
    react .directives s =
      releases.directives.order.foldl
        (fun t n =>
          match (t.slot n).pending with
          | some { action := .engage _, placed := _ } => considerDirective t n
          | _ => t)
        releases) ∧
  ∀ (s : State) (n : Axis) (d : Directive), Reaction.directives ∈ s.boundary.owed → (s.slot n).pending = some d →
    let applied : Prop :=
      ((react .directives s).slot n).pending = none ∧ ((react .directives s).slot n).outcome = .applied ∧
      ((react .directives s).slot n).outcomeFrame = s.clock.f
    let row : Instr := match d.action with
      | .release => .applyRelease n
      | .engage _ => .applyEngage n
    let other : Instr := match d.action with
      | .release => .applyEngage n
      | .engage _ => .applyRelease n
    (applied → exec row s = .next (takeOwed s .directives)) ∧ (¬ applied → exec row s = .next s) ∧
    exec other s = .next s ∧
    (d.placed < s.clock.f → placementRefusal s n d.action = none → guardsAllow s n d.action = true →
      let frame (t : State) : Prop :=
        t =
          { s with
            boundary := t.boundary, axes := t.axes, directives := t.directives, record := t.record } ∧
        t.boundary.owed = s.boundary.owed.filter (· ≠ .directives) ∧ t.directives.guards = s.directives.guards
      (d.action = .release → (s.axis n).group.isSome = true → (s.axis n).sync ≠ .uncoupled →
        ∃ t, exec (.applyRelease n) s = .next t ∧ frame t ∧
          t.axis n =
            { s.axis n with group := none, sync := .uncoupled, lockCount := 0, slipCount := 0, speedError := 0 } ∧
          t.slot n =
            { pending := none, outcome := .applied, outcomeFrame := s.clock.f, engaged := (s.slot n).engaged
              released := some s.clock.f } ∧
          n ∉ t.directives.order) ∧
      (∀ (g : Group) (before after : List Axis), d.action = .engage g → (s.axis n).group = none →
        (s.axis n).driveStatus ≠ some .brakeSet → s.directives.order = before ++ n :: after →
        (∀ m ∈ before, ∀ x : Directive, (s.slot m).pending = some x → x.action = .release) →
        ∃ t, exec (.applyEngage n) s = .next t ∧ frame t ∧
          t.axis n =
            { s.axis n with group := some g, sync := .acquiring, lockCount := 0, slipCount := 0, speedError := 0 } ∧
          t.slot n =
            { pending := none, outcome := .applied, outcomeFrame := s.clock.f, engaged := some s.clock.f
              released := (s.slot n).released } ∧
          n ∉ t.directives.order))

/-- The Trace Monitor's reaction (R188), the engine's taken first where it is owed too: in RUNNING and DWELL, over the axes
in ROAD on UP links with a measurement, the mean is compared with the virtual speed. Outside tolerance the deviation counter
advances, no further than the allowed deviation, and opens an episode when it reaches it; within tolerance it returns to 0,
and ends the episode it stood for; with an empty set or in another state it keeps its value. TRACE_DEVIATION is that
reaction where it opens the episode. That the command takes the monitor's owed reaction is the DESIGN CHOICE of log 4, and
that the monitor reads the state and speed the engine's reaction left is deduced in log 16. -/
def Obligations.TraceDeviationResult : Prop :=
  ∀ s : State, Reaction.trace ∈ s.boundary.owed →
    let w := takeOwed s .schedule
    let members : List Axis :=
      [0, 1, 2, 3].filter fun n =>
        decide ((w.axis n).mode = .road ∧ (w.link n).state = .up ∧ (w.axis n).measuredSpeed.isSome = true)
    let mean : Int := (members.map fun n => (w.axis n).measuredSpeed.getD 0).sum.tdiv members.length
    let compared : Prop := (w.trace.leftState = .running ∨ w.trace.leftState = .dwell) ∧ members ≠ []
    let outside : Prop := w.trace.tolerance < ((mean - w.trace.leftSpeed).natAbs : Int)
    let counted (k : Nat) : State :=
      { w with
        boundary := { w.boundary with owed := w.boundary.owed.filter (· ≠ .trace) }
        trace := { w.trace with deviation := k } }
    (¬ compared →
      takeOwed w .trace = counted w.trace.deviation ∧ exec .traceDeviation s = .next s) ∧
    (compared → outside → w.trace.deviation + 1 < w.trace.allowed →
      takeOwed w .trace = counted (w.trace.deviation + 1) ∧ exec .traceDeviation s = .next s) ∧
    (compared → outside → w.trace.deviation + 1 = w.trace.allowed →
      takeOwed w .trace = openTrace (counted w.trace.allowed) ∧
      exec .traceDeviation s = .next (openTrace (counted w.trace.allowed))) ∧
    (compared → outside → w.trace.allowed ≤ w.trace.deviation →
      takeOwed w .trace = counted w.trace.allowed ∧ exec .traceDeviation s = .next s) ∧
    (compared → ¬ outside → w.trace.deviation < w.trace.allowed →
      takeOwed w .trace = counted 0 ∧ exec .traceDeviation s = .next s) ∧
    (compared → ¬ outside → w.trace.allowed ≤ w.trace.deviation →
      takeOwed w .trace = closeTrace (counted 0) ∧ exec .traceDeviation s = .next s)

/-- FRAME_LIMIT (R7, R56, R11): at the last boundary, once the other blocks have reacted, the clock halts with F unchanged;
an active run is aborted with cause FRAME_LIMIT, and active lines are held for one frame. That the command takes the owed
halt after every other owed reaction is the choice of logs 3 and 4. -/
def Obligations.FrameLimitResult : Prop :=
  ∀ s : State, Reaction.limit ∈ s.boundary.owed → s.clock.f = 4294967295 →
    (∃ t, exec .frameLimit s = .next t ∧ t.boundary.owed = [] ∧ t.clock.f = s.clock.f ∧ t.clock.state = .halted ∧
      t.clock.position = none ∧ t.runActive = false) ∧
    (s.boundary.owed = [.limit] →
      let halted : State :=
        { s with
          boundary := { s.boundary with owed := [] }
          clock :=
            { s.clock with
              state := .halted, position := none
              lineHold :=
                if s.clock.lines = ⟨false, false, false, false⟩ then none
                else some (s.clock.lineHold.getD (s.clock.n + 1)) } }
      exec .frameLimit s = .next (if s.runActive = true then enterAborted halted .frameLimit else halted))

/-! ## Properties that every step keeps -/

/-- The state after reset, SAFE-STOP asserted or not, has every property below, and so has the model's own reset. -/
def Obligations.PropertiesAtReset : Prop :=
  ∀ asserted : Bool, ∀ s ∈ [State.atReset asserted, State.reset],
    ClockSound s ∧ QueueSound s ∧ ScheduleSound s ∧ SafeStopSound s ∧ HoldsSound s ∧ RecordSound s ∧ CouplingSound s ∧
    FaultsAgree s ∧ LatchesSound s ∧ DirectivesSound s ∧ BanksSound s

/-- Every step keeps the clock's ranges (R1, R2, R7). -/
def Obligations.ClockStaysSound : Prop := ∀ s t : State, ClockSound s → step s = .next t → ClockSound t

/-- Every step keeps the queue (R18, R19, R21, R22). -/
def Obligations.QueueStaysSound : Prop := ∀ s t : State, QueueSound s → step s = .next t → QueueSound t

/-- Every step keeps the schedule's speeds and active segment (R33, R34), and no run active out of NORMAL (R141). -/
def Obligations.ScheduleStaysSound : Prop :=
  ∀ s t : State, step s = .next t → (ScheduleSound s → ScheduleSound t) ∧ (SafeStopSound s → SafeStopSound t)

/-- Every step keeps the hold set's expiries (R67, R69) and the run record's capacities and references (R180 to R185). -/
def Obligations.HoldsAndRecordStaySound : Prop :=
  ∀ s t : State, step s = .next t → (HoldsSound s → HoldsSound t) ∧ (RecordSound s → RecordSound t)

/-- Every step keeps the agreement of latch, sync state and hold of a faulted axis (R67, R80, R94), the latch's fields
(R166), and the coupling's conditions (R80). -/
def Obligations.CouplingStaysSound : Prop :=
  ∀ s t : State, step s = .next t →
    (FaultsAgree s → FaultsAgree t) ∧ (LatchesSound s → LatchesSound t) ∧ (CouplingSound s → CouplingSound t)

/-- Every step keeps the placement order (R94) and the banks (R129, R133, R135). -/
def Obligations.DirectivesAndBanksStaySound : Prop :=
  ∀ s t : State, step s = .next t → (DirectivesSound s → DirectivesSound t) ∧ (BanksSound s → BanksSound t)
end

