-- ==== Sys2Proof/Laws/State.lean ====
section
/-!
SUPPORT. The small lemmas of the state: tables of four, and what each single write leaves as it was. A lemma named
<operation>_keeps says of every other field that the operation leaves it unchanged; simp uses each of its clauses.
-/
namespace Sys2Proof

namespace Four
variable {α β : Type}

@[simp] theorem get_set_self (v : Four α) (i : Axis) (x : α) : (v.set i x).get i = x := by
  fin_cases i <;> rfl

theorem get_set_ne (v : Four α) (i j : Axis) (x : α) (h : j ≠ i) : (v.set i x).get j = v.get j := by
  revert h; fin_cases i <;> fin_cases j <;> simp [get, set]

theorem get_set (v : Four α) (i j : Axis) (x : α) : (v.set i x).get j = if j = i then x else v.get j := by
  by_cases h : j = i
  · subst h; simp
  · simp [h, get_set_ne]

@[simp] theorem get_all (x : α) (i : Axis) : (Four.all x).get i = x := by fin_cases i <;> rfl

@[simp] theorem get_map (f : α → β) (v : Four α) (i : Axis) : (v.map f).get i = f (v.get i) := by fin_cases i <;> rfl

theorem ext_get (v w : Four α) (h : ∀ i, v.get i = w.get i) : v = w := by
  have h0 := h 0; have h1 := h 1; have h2 := h 2; have h3 := h 3
  cases v; cases w; simp_all [get]

end Four

namespace Machine

/-- A fold keeps what each of its rounds keeps. -/
theorem foldl_keeps {α β : Type} (f : State → β) (g : State → α → State) (h : ∀ s x, f (g s x) = f s) (xs : List α)
    (s : State) : f (xs.foldl g s) = f s := by
  induction xs generalizing s with
  | nil => rfl
  | cons x xs ih => simp [ih, h]

/-- A fold keeps a property that each of its rounds keeps. -/
theorem foldl_property {α : Type} (P : State → Prop) (g : State → α → State) (h : ∀ s x, P s → P (g s x)) (xs : List α)
    (s : State) (hs : P s) : P (xs.foldl g s) := by
  induction xs generalizing s with
  | nil => exact hs
  | cons x xs ih => exact ih _ (h _ _ hs)

/-! ## Single writes -/

@[simp] theorem State.setAxis_keeps (s : State) (n : Axis) (r : AxisRecord) :
    (s.setAxis n r).pending = s.pending ∧ (s.setAxis n r).clock = s.clock ∧ (s.setAxis n r).boundary = s.boundary ∧
    (s.setAxis n r).queue = s.queue ∧ (s.setAxis n r).schedule = s.schedule ∧ (s.setAxis n r).holds = s.holds ∧
    (s.setAxis n r).sync = s.sync ∧ (s.setAxis n r).directives = s.directives ∧ (s.setAxis n r).loss = s.loss ∧
    (s.setAxis n r).road = s.road ∧ (s.setAxis n r).links = s.links ∧ (s.setAxis n r).linkSettings = s.linkSettings ∧
    (s.setAxis n r).latches = s.latches ∧ (s.setAxis n r).safety = s.safety ∧
    (s.setAxis n r).safeStopAsserted = s.safeStopAsserted ∧ (s.setAxis n r).record = s.record ∧
    (s.setAxis n r).trace = s.trace ∧ (s.setAxis n r).receivers = s.receivers ∧
    (s.setAxis n r).heldInReset = s.heldInReset ∧ (s.setAxis n r).drawn = s.drawn := by
  simp [State.setAxis]

@[simp] theorem State.setLink_keeps (s : State) (n : Axis) (l : DriveLink) :
    (s.setLink n l).pending = s.pending ∧ (s.setLink n l).clock = s.clock ∧ (s.setLink n l).boundary = s.boundary ∧
    (s.setLink n l).queue = s.queue ∧ (s.setLink n l).schedule = s.schedule ∧ (s.setLink n l).holds = s.holds ∧
    (s.setLink n l).axes = s.axes ∧ (s.setLink n l).sync = s.sync ∧ (s.setLink n l).directives = s.directives ∧
    (s.setLink n l).loss = s.loss ∧ (s.setLink n l).road = s.road ∧ (s.setLink n l).linkSettings = s.linkSettings ∧
    (s.setLink n l).latches = s.latches ∧ (s.setLink n l).safety = s.safety ∧
    (s.setLink n l).safeStopAsserted = s.safeStopAsserted ∧ (s.setLink n l).record = s.record ∧
    (s.setLink n l).trace = s.trace ∧ (s.setLink n l).receivers = s.receivers ∧
    (s.setLink n l).heldInReset = s.heldInReset ∧ (s.setLink n l).drawn = s.drawn := by
  simp [State.setLink]

@[simp] theorem State.setLatch_keeps (s : State) (n : Axis) (l : FaultLatch) :
    (s.setLatch n l).pending = s.pending ∧ (s.setLatch n l).clock = s.clock ∧ (s.setLatch n l).boundary = s.boundary ∧
    (s.setLatch n l).queue = s.queue ∧ (s.setLatch n l).schedule = s.schedule ∧ (s.setLatch n l).holds = s.holds ∧
    (s.setLatch n l).axes = s.axes ∧ (s.setLatch n l).sync = s.sync ∧ (s.setLatch n l).directives = s.directives ∧
    (s.setLatch n l).loss = s.loss ∧ (s.setLatch n l).road = s.road ∧ (s.setLatch n l).links = s.links ∧
    (s.setLatch n l).linkSettings = s.linkSettings ∧ (s.setLatch n l).safety = s.safety ∧
    (s.setLatch n l).safeStopAsserted = s.safeStopAsserted ∧ (s.setLatch n l).record = s.record ∧
    (s.setLatch n l).trace = s.trace ∧ (s.setLatch n l).receivers = s.receivers ∧
    (s.setLatch n l).heldInReset = s.heldInReset ∧ (s.setLatch n l).drawn = s.drawn := by
  simp [State.setLatch]

@[simp] theorem State.setSlot_keeps (s : State) (n : Axis) (x : DirectiveSlot) :
    (s.setSlot n x).pending = s.pending ∧ (s.setSlot n x).clock = s.clock ∧ (s.setSlot n x).boundary = s.boundary ∧
    (s.setSlot n x).queue = s.queue ∧ (s.setSlot n x).schedule = s.schedule ∧ (s.setSlot n x).holds = s.holds ∧
    (s.setSlot n x).axes = s.axes ∧ (s.setSlot n x).sync = s.sync ∧ (s.setSlot n x).loss = s.loss ∧
    (s.setSlot n x).road = s.road ∧ (s.setSlot n x).links = s.links ∧ (s.setSlot n x).linkSettings = s.linkSettings ∧
    (s.setSlot n x).latches = s.latches ∧ (s.setSlot n x).safety = s.safety ∧
    (s.setSlot n x).safeStopAsserted = s.safeStopAsserted ∧ (s.setSlot n x).record = s.record ∧
    (s.setSlot n x).trace = s.trace ∧ (s.setSlot n x).receivers = s.receivers ∧
    (s.setSlot n x).heldInReset = s.heldInReset ∧ (s.setSlot n x).drawn = s.drawn := by
  simp [State.setSlot]

@[simp] theorem State.setOrder_keeps (s : State) (order : List Axis) :
    (s.setOrder order).pending = s.pending ∧ (s.setOrder order).clock = s.clock ∧
    (s.setOrder order).boundary = s.boundary ∧ (s.setOrder order).queue = s.queue ∧
    (s.setOrder order).schedule = s.schedule ∧ (s.setOrder order).holds = s.holds ∧ (s.setOrder order).axes = s.axes ∧
    (s.setOrder order).sync = s.sync ∧ (s.setOrder order).loss = s.loss ∧ (s.setOrder order).road = s.road ∧
    (s.setOrder order).links = s.links ∧ (s.setOrder order).linkSettings = s.linkSettings ∧
    (s.setOrder order).latches = s.latches ∧ (s.setOrder order).safety = s.safety ∧
    (s.setOrder order).safeStopAsserted = s.safeStopAsserted ∧ (s.setOrder order).record = s.record ∧
    (s.setOrder order).trace = s.trace ∧ (s.setOrder order).receivers = s.receivers ∧
    (s.setOrder order).heldInReset = s.heldInReset ∧ (s.setOrder order).drawn = s.drawn := by
  simp [State.setOrder]

@[simp] theorem State.setHold_keeps (s : State) (who : Holder) (e : Option HoldEntry) :
    (s.setHold who e).pending = s.pending ∧ (s.setHold who e).clock = s.clock ∧
    (s.setHold who e).boundary = s.boundary ∧ (s.setHold who e).queue = s.queue ∧
    (s.setHold who e).schedule = s.schedule ∧ (s.setHold who e).axes = s.axes ∧ (s.setHold who e).sync = s.sync ∧
    (s.setHold who e).directives = s.directives ∧ (s.setHold who e).loss = s.loss ∧ (s.setHold who e).road = s.road ∧
    (s.setHold who e).links = s.links ∧ (s.setHold who e).linkSettings = s.linkSettings ∧
    (s.setHold who e).latches = s.latches ∧ (s.setHold who e).safety = s.safety ∧
    (s.setHold who e).safeStopAsserted = s.safeStopAsserted ∧ (s.setHold who e).record = s.record ∧
    (s.setHold who e).trace = s.trace ∧ (s.setHold who e).receivers = s.receivers ∧
    (s.setHold who e).heldInReset = s.heldInReset ∧ (s.setHold who e).drawn = s.drawn := by
  simp [State.setHold]

@[simp] theorem State.setReceiver_keeps (s : State) (p : Port) (r : Receiver) :
    (s.setReceiver p r).pending = s.pending ∧ (s.setReceiver p r).clock = s.clock ∧
    (s.setReceiver p r).boundary = s.boundary ∧ (s.setReceiver p r).queue = s.queue ∧
    (s.setReceiver p r).schedule = s.schedule ∧ (s.setReceiver p r).holds = s.holds ∧
    (s.setReceiver p r).axes = s.axes ∧ (s.setReceiver p r).sync = s.sync ∧
    (s.setReceiver p r).directives = s.directives ∧ (s.setReceiver p r).loss = s.loss ∧
    (s.setReceiver p r).road = s.road ∧ (s.setReceiver p r).links = s.links ∧
    (s.setReceiver p r).linkSettings = s.linkSettings ∧ (s.setReceiver p r).latches = s.latches ∧
    (s.setReceiver p r).safety = s.safety ∧ (s.setReceiver p r).safeStopAsserted = s.safeStopAsserted ∧
    (s.setReceiver p r).record = s.record ∧ (s.setReceiver p r).trace = s.trace ∧
    (s.setReceiver p r).heldInReset = s.heldInReset ∧ (s.setReceiver p r).drawn = s.drawn := by
  cases p <;> simp [State.setReceiver]

@[simp] theorem State.withSchedule_keeps (s : State) (x : Schedule) :
    (s.withSchedule x).pending = s.pending ∧ (s.withSchedule x).clock = s.clock ∧
    (s.withSchedule x).boundary = s.boundary ∧ (s.withSchedule x).queue = s.queue ∧
    (s.withSchedule x).holds = s.holds ∧ (s.withSchedule x).axes = s.axes ∧ (s.withSchedule x).sync = s.sync ∧
    (s.withSchedule x).directives = s.directives ∧ (s.withSchedule x).loss = s.loss ∧
    (s.withSchedule x).road = s.road ∧ (s.withSchedule x).links = s.links ∧
    (s.withSchedule x).linkSettings = s.linkSettings ∧ (s.withSchedule x).latches = s.latches ∧
    (s.withSchedule x).safety = s.safety ∧ (s.withSchedule x).safeStopAsserted = s.safeStopAsserted ∧
    (s.withSchedule x).record = s.record ∧ (s.withSchedule x).trace = s.trace ∧
    (s.withSchedule x).receivers = s.receivers ∧ (s.withSchedule x).heldInReset = s.heldInReset ∧
    (s.withSchedule x).drawn = s.drawn := by
  simp [State.withSchedule]

@[simp] theorem State.withRecord_keeps (s : State) (x : RunRecord) :
    (s.withRecord x).pending = s.pending ∧ (s.withRecord x).clock = s.clock ∧ (s.withRecord x).boundary = s.boundary ∧
    (s.withRecord x).queue = s.queue ∧ (s.withRecord x).schedule = s.schedule ∧ (s.withRecord x).holds = s.holds ∧
    (s.withRecord x).axes = s.axes ∧ (s.withRecord x).sync = s.sync ∧ (s.withRecord x).directives = s.directives ∧
    (s.withRecord x).loss = s.loss ∧ (s.withRecord x).road = s.road ∧ (s.withRecord x).links = s.links ∧
    (s.withRecord x).linkSettings = s.linkSettings ∧ (s.withRecord x).latches = s.latches ∧
    (s.withRecord x).safety = s.safety ∧ (s.withRecord x).safeStopAsserted = s.safeStopAsserted ∧
    (s.withRecord x).trace = s.trace ∧ (s.withRecord x).receivers = s.receivers ∧
    (s.withRecord x).heldInReset = s.heldInReset ∧ (s.withRecord x).drawn = s.drawn := by
  simp [State.withRecord]

@[simp] theorem State.withClock_keeps (s : State) (c : Clock) :
    (s.withClock c).pending = s.pending ∧ (s.withClock c).boundary = s.boundary ∧ (s.withClock c).queue = s.queue ∧
    (s.withClock c).schedule = s.schedule ∧ (s.withClock c).holds = s.holds ∧ (s.withClock c).axes = s.axes ∧
    (s.withClock c).sync = s.sync ∧ (s.withClock c).directives = s.directives ∧ (s.withClock c).loss = s.loss ∧
    (s.withClock c).road = s.road ∧ (s.withClock c).links = s.links ∧ (s.withClock c).linkSettings = s.linkSettings ∧
    (s.withClock c).latches = s.latches ∧ (s.withClock c).safety = s.safety ∧
    (s.withClock c).safeStopAsserted = s.safeStopAsserted ∧ (s.withClock c).record = s.record ∧
    (s.withClock c).trace = s.trace ∧ (s.withClock c).receivers = s.receivers ∧
    (s.withClock c).heldInReset = s.heldInReset ∧ (s.withClock c).drawn = s.drawn := by
  simp [State.withClock]

/-! ## What a write writes -/

@[simp] theorem State.setAxis_axes (s : State) (n : Axis) (r : AxisRecord) : (s.setAxis n r).axes = s.axes.set n r := rfl
@[simp] theorem State.setLink_links (s : State) (n : Axis) (l : DriveLink) : (s.setLink n l).links = s.links.set n l := rfl
@[simp] theorem State.setLatch_latches (s : State) (n : Axis) (l : FaultLatch) :
    (s.setLatch n l).latches = s.latches.set n l := rfl
@[simp] theorem State.setSlot_slots (s : State) (n : Axis) (x : DirectiveSlot) :
    (s.setSlot n x).directives.slots = s.directives.slots.set n x := rfl
@[simp] theorem State.setSlot_order (s : State) (n : Axis) (x : DirectiveSlot) :
    (s.setSlot n x).directives.order = s.directives.order := rfl
@[simp] theorem State.setSlot_guards (s : State) (n : Axis) (x : DirectiveSlot) :
    (s.setSlot n x).directives.guards = s.directives.guards := rfl
@[simp] theorem State.setOrder_slots (s : State) (order : List Axis) :
    (s.setOrder order).directives.slots = s.directives.slots := rfl
@[simp] theorem State.setOrder_order (s : State) (order : List Axis) : (s.setOrder order).directives.order = order := rfl
@[simp] theorem State.setOrder_guards (s : State) (order : List Axis) :
    (s.setOrder order).directives.guards = s.directives.guards := rfl
@[simp] theorem State.setHold_holds (s : State) (who : Holder) (e : Option HoldEntry) :
    (s.setHold who e).holds = s.holds.put who e := rfl
@[simp] theorem State.withSchedule_schedule (s : State) (x : Schedule) : (s.withSchedule x).schedule = x := rfl
@[simp] theorem State.withRecord_record (s : State) (x : RunRecord) : (s.withRecord x).record = x := rfl
@[simp] theorem State.withClock_clock (s : State) (c : Clock) : (s.withClock c).clock = c := rfl

theorem HoldSet.get_put (h : HoldSet) (who other : Holder) (e : Option HoldEntry) :
    (h.put who e).get other = if other = who then e else h.get other := by
  cases who with
  | external x => cases other with
    | external y => cases x <;> cases y <;> simp [HoldSet.get, HoldSet.put]
    | axis m => cases x <;> simp [HoldSet.get, HoldSet.put]
  | axis n => cases other with
    | external y => cases y <;> simp [HoldSet.get, HoldSet.put]
    | axis m => simp [HoldSet.get, HoldSet.put, Four.get_set]

@[simp] theorem State.receiver_setReceiver (s : State) (p : Port) (r : Receiver) : (s.setReceiver p r).receiver p = r := by
  cases p <;> simp [State.setReceiver, State.receiver]

theorem State.receiver_setReceiver_ne (s : State) (p q : Port) (r : Receiver) (h : q ≠ p) :
    (s.setReceiver p r).receiver q = s.receiver q := by
  cases p <;> cases q <;> simp_all [State.setReceiver, State.receiver, Four.get_set_ne]

end Machine
end Sys2Proof
end

