-- ==== Sys2Proof/Laws/Ops.lean ====
section
/-!
SUPPORT. What each shared operation leaves as it was (<operation>_keeps), and what it can do.
-/
namespace Sys2Proof.Machine

/-! ## The run record, the schedule's state, stops and ends -/

@[simp] theorem setScheduleState_keeps (s : State) (x : ScheduleState) :
    (setScheduleState s x).pending = s.pending ∧ (setScheduleState s x).clock = s.clock ∧
    (setScheduleState s x).boundary = s.boundary ∧ (setScheduleState s x).queue = s.queue ∧
    (setScheduleState s x).holds = s.holds ∧ (setScheduleState s x).axes = s.axes ∧
    (setScheduleState s x).sync = s.sync ∧ (setScheduleState s x).directives = s.directives ∧
    (setScheduleState s x).loss = s.loss ∧ (setScheduleState s x).road = s.road ∧
    (setScheduleState s x).links = s.links ∧ (setScheduleState s x).linkSettings = s.linkSettings ∧
    (setScheduleState s x).latches = s.latches ∧ (setScheduleState s x).safety = s.safety ∧
    (setScheduleState s x).safeStopAsserted = s.safeStopAsserted ∧ (setScheduleState s x).trace = s.trace ∧
    (setScheduleState s x).receivers = s.receivers ∧ (setScheduleState s x).heldInReset = s.heldInReset ∧
    (setScheduleState s x).drawn = s.drawn := by
  simp [setScheduleState]

@[simp] theorem placeEntry_keeps (s : State) (e : ExceptionEntry) :
    (placeEntry s e).pending = s.pending ∧ (placeEntry s e).clock = s.clock ∧ (placeEntry s e).boundary = s.boundary ∧
    (placeEntry s e).queue = s.queue ∧ (placeEntry s e).schedule = s.schedule ∧ (placeEntry s e).holds = s.holds ∧
    (placeEntry s e).axes = s.axes ∧ (placeEntry s e).sync = s.sync ∧ (placeEntry s e).directives = s.directives ∧
    (placeEntry s e).loss = s.loss ∧ (placeEntry s e).road = s.road ∧ (placeEntry s e).links = s.links ∧
    (placeEntry s e).linkSettings = s.linkSettings ∧ (placeEntry s e).latches = s.latches ∧
    (placeEntry s e).safety = s.safety ∧ (placeEntry s e).safeStopAsserted = s.safeStopAsserted ∧
    (placeEntry s e).trace = s.trace ∧ (placeEntry s e).receivers = s.receivers ∧
    (placeEntry s e).heldInReset = s.heldInReset ∧ (placeEntry s e).drawn = s.drawn := by
  unfold placeEntry; split <;> simp

@[simp] theorem handEntry_keeps (s : State) (e : ExceptionEntry) :
    (handEntry s e).pending = s.pending ∧ (handEntry s e).clock = s.clock ∧ (handEntry s e).boundary = s.boundary ∧
    (handEntry s e).queue = s.queue ∧ (handEntry s e).schedule = s.schedule ∧ (handEntry s e).holds = s.holds ∧
    (handEntry s e).axes = s.axes ∧ (handEntry s e).sync = s.sync ∧ (handEntry s e).directives = s.directives ∧
    (handEntry s e).loss = s.loss ∧ (handEntry s e).road = s.road ∧ (handEntry s e).links = s.links ∧
    (handEntry s e).linkSettings = s.linkSettings ∧ (handEntry s e).latches = s.latches ∧
    (handEntry s e).safety = s.safety ∧ (handEntry s e).safeStopAsserted = s.safeStopAsserted ∧
    (handEntry s e).trace = s.trace ∧ (handEntry s e).receivers = s.receivers ∧
    (handEntry s e).heldInReset = s.heldInReset ∧ (handEntry s e).drawn = s.drawn := by
  unfold handEntry; split <;> simp

@[simp] theorem closeEntry_keeps (s : State) (position : Option Nat) :
    (closeEntry s position).pending = s.pending ∧ (closeEntry s position).clock = s.clock ∧
    (closeEntry s position).boundary = s.boundary ∧ (closeEntry s position).queue = s.queue ∧
    (closeEntry s position).schedule = s.schedule ∧ (closeEntry s position).holds = s.holds ∧
    (closeEntry s position).axes = s.axes ∧ (closeEntry s position).sync = s.sync ∧
    (closeEntry s position).directives = s.directives ∧ (closeEntry s position).loss = s.loss ∧
    (closeEntry s position).road = s.road ∧ (closeEntry s position).links = s.links ∧
    (closeEntry s position).linkSettings = s.linkSettings ∧ (closeEntry s position).latches = s.latches ∧
    (closeEntry s position).safety = s.safety ∧ (closeEntry s position).safeStopAsserted = s.safeStopAsserted ∧
    (closeEntry s position).trace = s.trace ∧ (closeEntry s position).receivers = s.receivers ∧
    (closeEntry s position).heldInReset = s.heldInReset ∧ (closeEntry s position).drawn = s.drawn := by
  unfold closeEntry; split <;> simp

@[simp] theorem openDwell_keeps (s : State) (kind : ExceptionKind) :
    (openDwell s kind).pending = s.pending ∧ (openDwell s kind).clock = s.clock ∧
    (openDwell s kind).boundary = s.boundary ∧ (openDwell s kind).queue = s.queue ∧
    (openDwell s kind).schedule = s.schedule ∧ (openDwell s kind).holds = s.holds ∧ (openDwell s kind).axes = s.axes ∧
    (openDwell s kind).sync = s.sync ∧ (openDwell s kind).directives = s.directives ∧
    (openDwell s kind).loss = s.loss ∧ (openDwell s kind).road = s.road ∧ (openDwell s kind).links = s.links ∧
    (openDwell s kind).linkSettings = s.linkSettings ∧ (openDwell s kind).latches = s.latches ∧
    (openDwell s kind).safety = s.safety ∧ (openDwell s kind).safeStopAsserted = s.safeStopAsserted ∧
    (openDwell s kind).trace = s.trace ∧ (openDwell s kind).receivers = s.receivers ∧
    (openDwell s kind).heldInReset = s.heldInReset ∧ (openDwell s kind).drawn = s.drawn := by
  unfold openDwell; dsimp only; split <;> simp

@[simp] theorem openSlip_keeps (s : State) (n : Axis) :
    (openSlip s n).pending = s.pending ∧ (openSlip s n).clock = s.clock ∧ (openSlip s n).boundary = s.boundary ∧
    (openSlip s n).queue = s.queue ∧ (openSlip s n).schedule = s.schedule ∧ (openSlip s n).holds = s.holds ∧
    (openSlip s n).axes = s.axes ∧ (openSlip s n).sync = s.sync ∧ (openSlip s n).directives = s.directives ∧
    (openSlip s n).loss = s.loss ∧ (openSlip s n).road = s.road ∧ (openSlip s n).links = s.links ∧
    (openSlip s n).linkSettings = s.linkSettings ∧ (openSlip s n).latches = s.latches ∧
    (openSlip s n).safety = s.safety ∧ (openSlip s n).safeStopAsserted = s.safeStopAsserted ∧
    (openSlip s n).trace = s.trace ∧ (openSlip s n).receivers = s.receivers ∧
    (openSlip s n).heldInReset = s.heldInReset ∧ (openSlip s n).drawn = s.drawn := by
  unfold openSlip; dsimp only; split <;> simp

@[simp] theorem openTrace_keeps (s : State) :
    (openTrace s).pending = s.pending ∧ (openTrace s).clock = s.clock ∧ (openTrace s).boundary = s.boundary ∧
    (openTrace s).queue = s.queue ∧ (openTrace s).schedule = s.schedule ∧ (openTrace s).holds = s.holds ∧
    (openTrace s).axes = s.axes ∧ (openTrace s).sync = s.sync ∧ (openTrace s).directives = s.directives ∧
    (openTrace s).loss = s.loss ∧ (openTrace s).road = s.road ∧ (openTrace s).links = s.links ∧
    (openTrace s).linkSettings = s.linkSettings ∧ (openTrace s).latches = s.latches ∧
    (openTrace s).safety = s.safety ∧ (openTrace s).safeStopAsserted = s.safeStopAsserted ∧
    (openTrace s).trace = s.trace ∧ (openTrace s).receivers = s.receivers ∧
    (openTrace s).heldInReset = s.heldInReset ∧ (openTrace s).drawn = s.drawn := by
  unfold openTrace; dsimp only; split <;> simp

@[simp] theorem closeDwell_keeps (s : State) :
    (closeDwell s).pending = s.pending ∧ (closeDwell s).clock = s.clock ∧ (closeDwell s).boundary = s.boundary ∧
    (closeDwell s).queue = s.queue ∧ (closeDwell s).schedule = s.schedule ∧ (closeDwell s).holds = s.holds ∧
    (closeDwell s).axes = s.axes ∧ (closeDwell s).sync = s.sync ∧ (closeDwell s).directives = s.directives ∧
    (closeDwell s).loss = s.loss ∧ (closeDwell s).road = s.road ∧ (closeDwell s).links = s.links ∧
    (closeDwell s).linkSettings = s.linkSettings ∧ (closeDwell s).latches = s.latches ∧
    (closeDwell s).safety = s.safety ∧ (closeDwell s).safeStopAsserted = s.safeStopAsserted ∧
    (closeDwell s).trace = s.trace ∧ (closeDwell s).receivers = s.receivers ∧
    (closeDwell s).heldInReset = s.heldInReset ∧ (closeDwell s).drawn = s.drawn := by
  simp [closeDwell]

@[simp] theorem closeSlip_keeps (s : State) (n : Axis) :
    (closeSlip s n).pending = s.pending ∧ (closeSlip s n).clock = s.clock ∧ (closeSlip s n).boundary = s.boundary ∧
    (closeSlip s n).queue = s.queue ∧ (closeSlip s n).schedule = s.schedule ∧ (closeSlip s n).holds = s.holds ∧
    (closeSlip s n).axes = s.axes ∧ (closeSlip s n).sync = s.sync ∧ (closeSlip s n).directives = s.directives ∧
    (closeSlip s n).loss = s.loss ∧ (closeSlip s n).road = s.road ∧ (closeSlip s n).links = s.links ∧
    (closeSlip s n).linkSettings = s.linkSettings ∧ (closeSlip s n).latches = s.latches ∧
    (closeSlip s n).safety = s.safety ∧ (closeSlip s n).safeStopAsserted = s.safeStopAsserted ∧
    (closeSlip s n).trace = s.trace ∧ (closeSlip s n).receivers = s.receivers ∧
    (closeSlip s n).heldInReset = s.heldInReset ∧ (closeSlip s n).drawn = s.drawn := by
  simp [closeSlip]

@[simp] theorem closeTrace_keeps (s : State) :
    (closeTrace s).pending = s.pending ∧ (closeTrace s).clock = s.clock ∧ (closeTrace s).boundary = s.boundary ∧
    (closeTrace s).queue = s.queue ∧ (closeTrace s).schedule = s.schedule ∧ (closeTrace s).holds = s.holds ∧
    (closeTrace s).axes = s.axes ∧ (closeTrace s).sync = s.sync ∧ (closeTrace s).directives = s.directives ∧
    (closeTrace s).loss = s.loss ∧ (closeTrace s).road = s.road ∧ (closeTrace s).links = s.links ∧
    (closeTrace s).linkSettings = s.linkSettings ∧ (closeTrace s).latches = s.latches ∧
    (closeTrace s).safety = s.safety ∧ (closeTrace s).safeStopAsserted = s.safeStopAsserted ∧
    (closeTrace s).trace = s.trace ∧ (closeTrace s).receivers = s.receivers ∧
    (closeTrace s).heldInReset = s.heldInReset ∧ (closeTrace s).drawn = s.drawn := by
  simp [closeTrace]

@[simp] theorem closeEpisodes_keeps (s : State) :
    (closeEpisodes s).pending = s.pending ∧ (closeEpisodes s).clock = s.clock ∧
    (closeEpisodes s).boundary = s.boundary ∧ (closeEpisodes s).queue = s.queue ∧
    (closeEpisodes s).schedule = s.schedule ∧ (closeEpisodes s).holds = s.holds ∧ (closeEpisodes s).axes = s.axes ∧
    (closeEpisodes s).sync = s.sync ∧ (closeEpisodes s).directives = s.directives ∧ (closeEpisodes s).loss = s.loss ∧
    (closeEpisodes s).road = s.road ∧ (closeEpisodes s).links = s.links ∧
    (closeEpisodes s).linkSettings = s.linkSettings ∧ (closeEpisodes s).latches = s.latches ∧
    (closeEpisodes s).safety = s.safety ∧ (closeEpisodes s).safeStopAsserted = s.safeStopAsserted ∧
    (closeEpisodes s).trace = s.trace ∧ (closeEpisodes s).receivers = s.receivers ∧
    (closeEpisodes s).heldInReset = s.heldInReset ∧ (closeEpisodes s).drawn = s.drawn := by
  simp [closeEpisodes]

@[simp] theorem placeRunStop_keeps (s : State) (cause : StopCause) :
    (placeRunStop s cause).pending = s.pending ∧ (placeRunStop s cause).clock = s.clock ∧
    (placeRunStop s cause).boundary = s.boundary ∧ (placeRunStop s cause).queue = s.queue ∧
    (placeRunStop s cause).schedule = s.schedule ∧ (placeRunStop s cause).holds = s.holds ∧
    (placeRunStop s cause).axes = s.axes ∧ (placeRunStop s cause).sync = s.sync ∧
    (placeRunStop s cause).directives = s.directives ∧ (placeRunStop s cause).loss = s.loss ∧
    (placeRunStop s cause).road = s.road ∧ (placeRunStop s cause).links = s.links ∧
    (placeRunStop s cause).linkSettings = s.linkSettings ∧ (placeRunStop s cause).latches = s.latches ∧
    (placeRunStop s cause).safety = s.safety ∧ (placeRunStop s cause).safeStopAsserted = s.safeStopAsserted ∧
    (placeRunStop s cause).trace = s.trace ∧ (placeRunStop s cause).receivers = s.receivers ∧
    (placeRunStop s cause).heldInReset = s.heldInReset ∧ (placeRunStop s cause).drawn = s.drawn := by
  simp [placeRunStop]

@[simp] theorem finishRun_keeps (s : State) (final : ScheduleState) (cause : Option StopCause) :
    (finishRun s final cause).pending = s.pending ∧ (finishRun s final cause).clock = s.clock ∧
    (finishRun s final cause).boundary = s.boundary ∧ (finishRun s final cause).queue = s.queue ∧
    (finishRun s final cause).holds = s.holds ∧ (finishRun s final cause).axes = s.axes ∧
    (finishRun s final cause).sync = s.sync ∧ (finishRun s final cause).directives = s.directives ∧
    (finishRun s final cause).loss = s.loss ∧ (finishRun s final cause).links = s.links ∧
    (finishRun s final cause).linkSettings = s.linkSettings ∧ (finishRun s final cause).latches = s.latches ∧
    (finishRun s final cause).safety = s.safety ∧ (finishRun s final cause).safeStopAsserted = s.safeStopAsserted ∧
    (finishRun s final cause).trace = s.trace ∧ (finishRun s final cause).receivers = s.receivers ∧
    (finishRun s final cause).heldInReset = s.heldInReset ∧ (finishRun s final cause).drawn = s.drawn := by
  simp [finishRun]

@[simp] theorem enterEnded_keeps (s : State) :
    (enterEnded s).pending = s.pending ∧ (enterEnded s).clock = s.clock ∧ (enterEnded s).boundary = s.boundary ∧
    (enterEnded s).queue = s.queue ∧ (enterEnded s).holds = s.holds ∧ (enterEnded s).axes = s.axes ∧
    (enterEnded s).sync = s.sync ∧ (enterEnded s).directives = s.directives ∧ (enterEnded s).loss = s.loss ∧
    (enterEnded s).links = s.links ∧ (enterEnded s).linkSettings = s.linkSettings ∧
    (enterEnded s).latches = s.latches ∧ (enterEnded s).safety = s.safety ∧
    (enterEnded s).safeStopAsserted = s.safeStopAsserted ∧ (enterEnded s).trace = s.trace ∧
    (enterEnded s).receivers = s.receivers ∧ (enterEnded s).heldInReset = s.heldInReset ∧
    (enterEnded s).drawn = s.drawn := by
  simp [enterEnded]

@[simp] theorem enterAborted_keeps (s : State) (cause : StopCause) :
    (enterAborted s cause).pending = s.pending ∧ (enterAborted s cause).clock = s.clock ∧
    (enterAborted s cause).boundary = s.boundary ∧ (enterAborted s cause).queue = s.queue ∧
    (enterAborted s cause).holds = s.holds ∧ (enterAborted s cause).axes = s.axes ∧
    (enterAborted s cause).sync = s.sync ∧ (enterAborted s cause).directives = s.directives ∧
    (enterAborted s cause).loss = s.loss ∧ (enterAborted s cause).links = s.links ∧
    (enterAborted s cause).linkSettings = s.linkSettings ∧ (enterAborted s cause).latches = s.latches ∧
    (enterAborted s cause).safety = s.safety ∧ (enterAborted s cause).safeStopAsserted = s.safeStopAsserted ∧
    (enterAborted s cause).trace = s.trace ∧ (enterAborted s cause).receivers = s.receivers ∧
    (enterAborted s cause).heldInReset = s.heldInReset ∧ (enterAborted s cause).drawn = s.drawn := by
  simp [enterAborted]

@[simp] theorem completeStop_keeps (s : State) :
    (completeStop s).pending = s.pending ∧ (completeStop s).clock = s.clock ∧ (completeStop s).boundary = s.boundary ∧
    (completeStop s).queue = s.queue ∧ (completeStop s).holds = s.holds ∧ (completeStop s).axes = s.axes ∧
    (completeStop s).sync = s.sync ∧ (completeStop s).directives = s.directives ∧ (completeStop s).loss = s.loss ∧
    (completeStop s).links = s.links ∧ (completeStop s).linkSettings = s.linkSettings ∧
    (completeStop s).latches = s.latches ∧ (completeStop s).safety = s.safety ∧
    (completeStop s).safeStopAsserted = s.safeStopAsserted ∧ (completeStop s).trace = s.trace ∧
    (completeStop s).receivers = s.receivers ∧ (completeStop s).heldInReset = s.heldInReset ∧
    (completeStop s).drawn = s.drawn := by
  simp [completeStop]

@[simp] theorem enterStopping_keeps (s : State) (cause : StopCause) :
    (enterStopping s cause).pending = s.pending ∧ (enterStopping s cause).clock = s.clock ∧
    (enterStopping s cause).boundary = s.boundary ∧ (enterStopping s cause).queue = s.queue ∧
    (enterStopping s cause).holds = s.holds ∧ (enterStopping s cause).axes = s.axes ∧
    (enterStopping s cause).sync = s.sync ∧ (enterStopping s cause).directives = s.directives ∧
    (enterStopping s cause).loss = s.loss ∧ (enterStopping s cause).road = s.road ∧
    (enterStopping s cause).links = s.links ∧ (enterStopping s cause).linkSettings = s.linkSettings ∧
    (enterStopping s cause).latches = s.latches ∧ (enterStopping s cause).safety = s.safety ∧
    (enterStopping s cause).safeStopAsserted = s.safeStopAsserted ∧ (enterStopping s cause).trace = s.trace ∧
    (enterStopping s cause).receivers = s.receivers ∧ (enterStopping s cause).heldInReset = s.heldInReset ∧
    (enterStopping s cause).drawn = s.drawn := by
  unfold enterStopping; dsimp only; split <;> simp

@[simp] theorem applyFaultPolicy_keeps (s : State) :
    (applyFaultPolicy s).pending = s.pending ∧ (applyFaultPolicy s).clock = s.clock ∧
    (applyFaultPolicy s).boundary = s.boundary ∧ (applyFaultPolicy s).queue = s.queue ∧
    (applyFaultPolicy s).holds = s.holds ∧ (applyFaultPolicy s).axes = s.axes ∧ (applyFaultPolicy s).sync = s.sync ∧
    (applyFaultPolicy s).directives = s.directives ∧ (applyFaultPolicy s).loss = s.loss ∧
    (applyFaultPolicy s).links = s.links ∧ (applyFaultPolicy s).linkSettings = s.linkSettings ∧
    (applyFaultPolicy s).latches = s.latches ∧ (applyFaultPolicy s).safety = s.safety ∧
    (applyFaultPolicy s).safeStopAsserted = s.safeStopAsserted ∧ (applyFaultPolicy s).trace = s.trace ∧
    (applyFaultPolicy s).receivers = s.receivers ∧ (applyFaultPolicy s).heldInReset = s.heldInReset ∧
    (applyFaultPolicy s).drawn = s.drawn := by
  unfold applyFaultPolicy; split <;> simp

/-! ## Departures, directives, faults, links, deliveries -/

@[simp] theorem recordDeparture_keeps (s : State) (n : Axis) :
    (recordDeparture s n).pending = s.pending ∧ (recordDeparture s n).clock = s.clock ∧
    (recordDeparture s n).boundary = s.boundary ∧ (recordDeparture s n).queue = s.queue ∧
    (recordDeparture s n).schedule = s.schedule ∧ (recordDeparture s n).holds = s.holds ∧
    (recordDeparture s n).axes = s.axes ∧ (recordDeparture s n).sync = s.sync ∧ (recordDeparture s n).loss = s.loss ∧
    (recordDeparture s n).road = s.road ∧ (recordDeparture s n).links = s.links ∧
    (recordDeparture s n).linkSettings = s.linkSettings ∧ (recordDeparture s n).latches = s.latches ∧
    (recordDeparture s n).safety = s.safety ∧ (recordDeparture s n).safeStopAsserted = s.safeStopAsserted ∧
    (recordDeparture s n).record = s.record ∧ (recordDeparture s n).trace = s.trace ∧
    (recordDeparture s n).receivers = s.receivers ∧ (recordDeparture s n).heldInReset = s.heldInReset ∧
    (recordDeparture s n).drawn = s.drawn := by
  simp [recordDeparture]

@[simp] theorem leaveGroup_keeps (s : State) (n : Axis) (sync : SyncState) :
    (leaveGroup s n sync).pending = s.pending ∧ (leaveGroup s n sync).clock = s.clock ∧
    (leaveGroup s n sync).boundary = s.boundary ∧ (leaveGroup s n sync).queue = s.queue ∧
    (leaveGroup s n sync).schedule = s.schedule ∧ (leaveGroup s n sync).holds = s.holds ∧
    (leaveGroup s n sync).sync = s.sync ∧ (leaveGroup s n sync).loss = s.loss ∧ (leaveGroup s n sync).road = s.road ∧
    (leaveGroup s n sync).links = s.links ∧ (leaveGroup s n sync).linkSettings = s.linkSettings ∧
    (leaveGroup s n sync).latches = s.latches ∧ (leaveGroup s n sync).safety = s.safety ∧
    (leaveGroup s n sync).safeStopAsserted = s.safeStopAsserted ∧ (leaveGroup s n sync).trace = s.trace ∧
    (leaveGroup s n sync).receivers = s.receivers ∧ (leaveGroup s n sync).heldInReset = s.heldInReset ∧
    (leaveGroup s n sync).drawn = s.drawn := by
  unfold leaveGroup; dsimp only; split <;> split <;> simp

@[simp] theorem releaseAxis_keeps (s : State) (n : Axis) :
    (releaseAxis s n).pending = s.pending ∧ (releaseAxis s n).clock = s.clock ∧
    (releaseAxis s n).boundary = s.boundary ∧ (releaseAxis s n).queue = s.queue ∧
    (releaseAxis s n).schedule = s.schedule ∧ (releaseAxis s n).holds = s.holds ∧ (releaseAxis s n).sync = s.sync ∧
    (releaseAxis s n).loss = s.loss ∧ (releaseAxis s n).road = s.road ∧ (releaseAxis s n).links = s.links ∧
    (releaseAxis s n).linkSettings = s.linkSettings ∧ (releaseAxis s n).latches = s.latches ∧
    (releaseAxis s n).safety = s.safety ∧ (releaseAxis s n).safeStopAsserted = s.safeStopAsserted ∧
    (releaseAxis s n).trace = s.trace ∧ (releaseAxis s n).receivers = s.receivers ∧
    (releaseAxis s n).heldInReset = s.heldInReset ∧ (releaseAxis s n).drawn = s.drawn := by
  unfold releaseAxis; split <;> simp

@[simp] theorem concludeDirective_keeps (s : State) (n : Axis) (o : DirectiveOutcome) :
    (concludeDirective s n o).pending = s.pending ∧ (concludeDirective s n o).clock = s.clock ∧
    (concludeDirective s n o).boundary = s.boundary ∧ (concludeDirective s n o).queue = s.queue ∧
    (concludeDirective s n o).schedule = s.schedule ∧ (concludeDirective s n o).holds = s.holds ∧
    (concludeDirective s n o).axes = s.axes ∧ (concludeDirective s n o).sync = s.sync ∧
    (concludeDirective s n o).loss = s.loss ∧ (concludeDirective s n o).road = s.road ∧
    (concludeDirective s n o).links = s.links ∧ (concludeDirective s n o).linkSettings = s.linkSettings ∧
    (concludeDirective s n o).latches = s.latches ∧ (concludeDirective s n o).safety = s.safety ∧
    (concludeDirective s n o).safeStopAsserted = s.safeStopAsserted ∧ (concludeDirective s n o).record = s.record ∧
    (concludeDirective s n o).trace = s.trace ∧ (concludeDirective s n o).receivers = s.receivers ∧
    (concludeDirective s n o).heldInReset = s.heldInReset ∧ (concludeDirective s n o).drawn = s.drawn := by
  simp [concludeDirective]

@[simp] theorem cancelDirective_keeps (s : State) (n : Axis) :
    (cancelDirective s n).pending = s.pending ∧ (cancelDirective s n).clock = s.clock ∧
    (cancelDirective s n).boundary = s.boundary ∧ (cancelDirective s n).queue = s.queue ∧
    (cancelDirective s n).schedule = s.schedule ∧ (cancelDirective s n).holds = s.holds ∧
    (cancelDirective s n).axes = s.axes ∧ (cancelDirective s n).sync = s.sync ∧ (cancelDirective s n).loss = s.loss ∧
    (cancelDirective s n).road = s.road ∧ (cancelDirective s n).links = s.links ∧
    (cancelDirective s n).linkSettings = s.linkSettings ∧ (cancelDirective s n).latches = s.latches ∧
    (cancelDirective s n).safety = s.safety ∧ (cancelDirective s n).safeStopAsserted = s.safeStopAsserted ∧
    (cancelDirective s n).record = s.record ∧ (cancelDirective s n).trace = s.trace ∧
    (cancelDirective s n).receivers = s.receivers ∧ (cancelDirective s n).heldInReset = s.heldInReset ∧
    (cancelDirective s n).drawn = s.drawn := by
  unfold cancelDirective; split <;> simp

@[simp] theorem placeDirective_keeps (s : State) (n : Axis) (action : Action) :
    (placeDirective s n action).pending = s.pending ∧ (placeDirective s n action).clock = s.clock ∧
    (placeDirective s n action).boundary = s.boundary ∧ (placeDirective s n action).queue = s.queue ∧
    (placeDirective s n action).schedule = s.schedule ∧ (placeDirective s n action).holds = s.holds ∧
    (placeDirective s n action).axes = s.axes ∧ (placeDirective s n action).sync = s.sync ∧
    (placeDirective s n action).loss = s.loss ∧ (placeDirective s n action).road = s.road ∧
    (placeDirective s n action).links = s.links ∧ (placeDirective s n action).linkSettings = s.linkSettings ∧
    (placeDirective s n action).latches = s.latches ∧ (placeDirective s n action).safety = s.safety ∧
    (placeDirective s n action).safeStopAsserted = s.safeStopAsserted ∧
    (placeDirective s n action).record = s.record ∧ (placeDirective s n action).trace = s.trace ∧
    (placeDirective s n action).receivers = s.receivers ∧ (placeDirective s n action).heldInReset = s.heldInReset ∧
    (placeDirective s n action).drawn = s.drawn := by
  unfold placeDirective; split <;> simp

@[simp] theorem faultReactions_keeps (s : State) (n : Axis) (c : Cause) :
    (faultReactions s n c).pending = s.pending ∧ (faultReactions s n c).clock = s.clock ∧
    (faultReactions s n c).boundary = s.boundary ∧ (faultReactions s n c).queue = s.queue ∧
    (faultReactions s n c).sync = s.sync ∧ (faultReactions s n c).loss = s.loss ∧
    (faultReactions s n c).links = s.links ∧ (faultReactions s n c).linkSettings = s.linkSettings ∧
    (faultReactions s n c).latches = s.latches ∧ (faultReactions s n c).safety = s.safety ∧
    (faultReactions s n c).safeStopAsserted = s.safeStopAsserted ∧ (faultReactions s n c).trace = s.trace ∧
    (faultReactions s n c).receivers = s.receivers ∧ (faultReactions s n c).heldInReset = s.heldInReset ∧
    (faultReactions s n c).drawn = s.drawn := by
  simp [faultReactions]

@[simp] theorem raiseCause_keeps (s : State) (n : Axis) (c : Cause) (code : Option Byte) :
    (raiseCause s n c code).pending = s.pending ∧ (raiseCause s n c code).clock = s.clock ∧
    (raiseCause s n c code).boundary = s.boundary ∧ (raiseCause s n c code).queue = s.queue ∧
    (raiseCause s n c code).sync = s.sync ∧ (raiseCause s n c code).loss = s.loss ∧
    (raiseCause s n c code).links = s.links ∧ (raiseCause s n c code).linkSettings = s.linkSettings ∧
    (raiseCause s n c code).safety = s.safety ∧ (raiseCause s n c code).safeStopAsserted = s.safeStopAsserted ∧
    (raiseCause s n c code).trace = s.trace ∧ (raiseCause s n c code).receivers = s.receivers ∧
    (raiseCause s n c code).heldInReset = s.heldInReset ∧ (raiseCause s n c code).drawn = s.drawn := by
  unfold raiseCause; dsimp only; split <;> simp

@[simp] theorem setStale_keeps (s : State) (n : Axis) :
    (setStale s n).pending = s.pending ∧ (setStale s n).clock = s.clock ∧ (setStale s n).boundary = s.boundary ∧
    (setStale s n).queue = s.queue ∧ (setStale s n).schedule = s.schedule ∧ (setStale s n).holds = s.holds ∧
    (setStale s n).sync = s.sync ∧ (setStale s n).directives = s.directives ∧ (setStale s n).loss = s.loss ∧
    (setStale s n).road = s.road ∧ (setStale s n).links = s.links ∧ (setStale s n).linkSettings = s.linkSettings ∧
    (setStale s n).latches = s.latches ∧ (setStale s n).safety = s.safety ∧
    (setStale s n).safeStopAsserted = s.safeStopAsserted ∧ (setStale s n).record = s.record ∧
    (setStale s n).trace = s.trace ∧ (setStale s n).receivers = s.receivers ∧
    (setStale s n).heldInReset = s.heldInReset ∧ (setStale s n).drawn = s.drawn := by
  simp [setStale]

@[simp] theorem loseLink_keeps (s : State) (n : Axis) :
    (loseLink s n).pending = s.pending ∧ (loseLink s n).clock = s.clock ∧ (loseLink s n).boundary = s.boundary ∧
    (loseLink s n).queue = s.queue ∧ (loseLink s n).sync = s.sync ∧ (loseLink s n).loss = s.loss ∧
    (loseLink s n).linkSettings = s.linkSettings ∧ (loseLink s n).safety = s.safety ∧
    (loseLink s n).safeStopAsserted = s.safeStopAsserted ∧ (loseLink s n).trace = s.trace ∧
    (loseLink s n).receivers = s.receivers ∧ (loseLink s n).heldInReset = s.heldInReset ∧
    (loseLink s n).drawn = s.drawn := by
  unfold loseLink; dsimp only; split <;> simp

@[simp] theorem miswire_keeps (s : State) (n : Axis) :
    (miswire s n).pending = s.pending ∧ (miswire s n).clock = s.clock ∧ (miswire s n).boundary = s.boundary ∧
    (miswire s n).queue = s.queue ∧ (miswire s n).sync = s.sync ∧ (miswire s n).loss = s.loss ∧
    (miswire s n).linkSettings = s.linkSettings ∧ (miswire s n).safety = s.safety ∧
    (miswire s n).safeStopAsserted = s.safeStopAsserted ∧ (miswire s n).trace = s.trace ∧
    (miswire s n).receivers = s.receivers ∧ (miswire s n).heldInReset = s.heldInReset ∧
    (miswire s n).drawn = s.drawn := by
  unfold miswire; dsimp only; split <;> simp

@[simp] theorem syncUpdate_keeps (s : State) (n : Axis) :
    (syncUpdate s n).pending = s.pending ∧ (syncUpdate s n).clock = s.clock ∧ (syncUpdate s n).boundary = s.boundary ∧
    (syncUpdate s n).queue = s.queue ∧ (syncUpdate s n).sync = s.sync ∧ (syncUpdate s n).loss = s.loss ∧
    (syncUpdate s n).links = s.links ∧ (syncUpdate s n).linkSettings = s.linkSettings ∧
    (syncUpdate s n).safety = s.safety ∧ (syncUpdate s n).safeStopAsserted = s.safeStopAsserted ∧
    (syncUpdate s n).trace = s.trace ∧ (syncUpdate s n).receivers = s.receivers ∧
    (syncUpdate s n).heldInReset = s.heldInReset ∧ (syncUpdate s n).drawn = s.drawn := by
  unfold syncUpdate; dsimp only; split <;> (repeat' split) <;> simp

@[simp] theorem storeAccepted_keeps (s : State) (n : Axis) (v : Int) (sample : Nat) (temperature : Option Int) :
    (storeAccepted s n v sample temperature).pending = s.pending ∧
    (storeAccepted s n v sample temperature).clock = s.clock ∧
    (storeAccepted s n v sample temperature).boundary = s.boundary ∧
    (storeAccepted s n v sample temperature).queue = s.queue ∧
    (storeAccepted s n v sample temperature).schedule = s.schedule ∧
    (storeAccepted s n v sample temperature).holds = s.holds ∧
    (storeAccepted s n v sample temperature).sync = s.sync ∧
    (storeAccepted s n v sample temperature).directives = s.directives ∧
    (storeAccepted s n v sample temperature).road = s.road ∧
    (storeAccepted s n v sample temperature).links = s.links ∧
    (storeAccepted s n v sample temperature).linkSettings = s.linkSettings ∧
    (storeAccepted s n v sample temperature).latches = s.latches ∧
    (storeAccepted s n v sample temperature).safety = s.safety ∧
    (storeAccepted s n v sample temperature).safeStopAsserted = s.safeStopAsserted ∧
    (storeAccepted s n v sample temperature).record = s.record ∧
    (storeAccepted s n v sample temperature).trace = s.trace ∧
    (storeAccepted s n v sample temperature).receivers = s.receivers ∧
    (storeAccepted s n v sample temperature).heldInReset = s.heldInReset ∧
    (storeAccepted s n v sample temperature).drawn = s.drawn := by
  unfold storeAccepted; dsimp only; split <;> simp

@[simp] theorem deliver_keeps (s : State) (n : Axis) (cls : SampleClass) (p : PollFields) (temperature : Option Int) :
    (deliver s n cls p temperature).pending = s.pending ∧ (deliver s n cls p temperature).clock = s.clock ∧
    (deliver s n cls p temperature).boundary = s.boundary ∧ (deliver s n cls p temperature).queue = s.queue ∧
    (deliver s n cls p temperature).sync = s.sync ∧ (deliver s n cls p temperature).links = s.links ∧
    (deliver s n cls p temperature).linkSettings = s.linkSettings ∧
    (deliver s n cls p temperature).safety = s.safety ∧
    (deliver s n cls p temperature).safeStopAsserted = s.safeStopAsserted ∧
    (deliver s n cls p temperature).trace = s.trace ∧ (deliver s n cls p temperature).receivers = s.receivers ∧
    (deliver s n cls p temperature).heldInReset = s.heldInReset ∧
    (deliver s n cls p temperature).drawn = s.drawn := by
  unfold deliver; dsimp only; split <;> (repeat' split) <;> simp

@[simp] theorem refreshLimit_keeps (s : State) (n : Axis) :
    (refreshLimit s n).pending = s.pending ∧ (refreshLimit s n).clock = s.clock ∧
    (refreshLimit s n).boundary = s.boundary ∧ (refreshLimit s n).queue = s.queue ∧
    (refreshLimit s n).schedule = s.schedule ∧ (refreshLimit s n).holds = s.holds ∧ (refreshLimit s n).axes = s.axes ∧
    (refreshLimit s n).sync = s.sync ∧ (refreshLimit s n).directives = s.directives ∧
    (refreshLimit s n).loss = s.loss ∧ (refreshLimit s n).road = s.road ∧
    (refreshLimit s n).linkSettings = s.linkSettings ∧ (refreshLimit s n).latches = s.latches ∧
    (refreshLimit s n).safety = s.safety ∧ (refreshLimit s n).safeStopAsserted = s.safeStopAsserted ∧
    (refreshLimit s n).record = s.record ∧ (refreshLimit s n).trace = s.trace ∧
    (refreshLimit s n).receivers = s.receivers ∧ (refreshLimit s n).heldInReset = s.heldInReset ∧
    (refreshLimit s n).drawn = s.drawn := by
  simp [refreshLimit]

@[simp] theorem flushQueue_keeps (s : State) :
    (flushQueue s).pending = s.pending ∧ (flushQueue s).clock = s.clock ∧ (flushQueue s).boundary = s.boundary ∧
    (flushQueue s).schedule = s.schedule ∧ (flushQueue s).holds = s.holds ∧ (flushQueue s).axes = s.axes ∧
    (flushQueue s).sync = s.sync ∧ (flushQueue s).directives = s.directives ∧ (flushQueue s).loss = s.loss ∧
    (flushQueue s).road = s.road ∧ (flushQueue s).links = s.links ∧ (flushQueue s).linkSettings = s.linkSettings ∧
    (flushQueue s).latches = s.latches ∧ (flushQueue s).safety = s.safety ∧
    (flushQueue s).safeStopAsserted = s.safeStopAsserted ∧ (flushQueue s).record = s.record ∧
    (flushQueue s).trace = s.trace ∧ (flushQueue s).receivers = s.receivers ∧
    (flushQueue s).heldInReset = s.heldInReset ∧ (flushQueue s).drawn = s.drawn := by
  simp [flushQueue]

@[simp] theorem clearLines_keeps (s : State) :
    (clearLines s).pending = s.pending ∧ (clearLines s).boundary = s.boundary ∧ (clearLines s).queue = s.queue ∧
    (clearLines s).schedule = s.schedule ∧ (clearLines s).holds = s.holds ∧ (clearLines s).axes = s.axes ∧
    (clearLines s).sync = s.sync ∧ (clearLines s).directives = s.directives ∧ (clearLines s).loss = s.loss ∧
    (clearLines s).road = s.road ∧ (clearLines s).links = s.links ∧ (clearLines s).linkSettings = s.linkSettings ∧
    (clearLines s).latches = s.latches ∧ (clearLines s).safety = s.safety ∧
    (clearLines s).safeStopAsserted = s.safeStopAsserted ∧ (clearLines s).record = s.record ∧
    (clearLines s).trace = s.trace ∧ (clearLines s).receivers = s.receivers ∧
    (clearLines s).heldInReset = s.heldInReset ∧ (clearLines s).drawn = s.drawn := by
  simp [clearLines]

/-! ## What the operations write -/

@[simp] theorem setScheduleState_schedule (s : State) (x : ScheduleState) :
    (setScheduleState s x).schedule = { s.schedule with state := x } := rfl

@[simp] theorem setScheduleState_record (s : State) (x : ScheduleState) :
    (setScheduleState s x).record = { s.record with state := x.runState s.record.state } := rfl

@[simp] theorem finishRun_schedule (s : State) (final : ScheduleState) (cause : Option StopCause) :
    (finishRun s final cause).schedule =
      { s.schedule with state := final, active := none, virtualSpeed := 0, dwellCount := 0, stopCause := cause } := by
  simp [finishRun]

@[simp] theorem finishRun_road (s : State) (final : ScheduleState) (cause : Option StopCause) :
    (finishRun s final cause).road = { s.road with pendingSelection := none } := by
  simp [finishRun]

@[simp] theorem enterEnded_schedule (s : State) :
    (enterEnded s).schedule =
      { s.schedule with state := .ended, active := none, virtualSpeed := 0, dwellCount := 0, stopCause := none } := by
  simp [enterEnded]

@[simp] theorem enterEnded_road (s : State) : (enterEnded s).road = { s.road with pendingSelection := none } := by
  simp [enterEnded]

@[simp] theorem enterAborted_schedule (s : State) (cause : StopCause) :
    (enterAborted s cause).schedule =
      { s.schedule with
        state := .aborted, active := none, virtualSpeed := 0, dwellCount := 0, stopCause := some cause } := by
  simp [enterAborted]

@[simp] theorem enterAborted_road (s : State) (cause : StopCause) :
    (enterAborted s cause).road = { s.road with pendingSelection := none } := by
  simp [enterAborted]

@[simp] theorem completeStop_schedule (s : State) :
    (completeStop s).schedule =
      { s.schedule with state := .aborted, active := none, virtualSpeed := 0, dwellCount := 0 } := by
  simp [completeStop]

@[simp] theorem completeStop_road (s : State) : (completeStop s).road = { s.road with pendingSelection := none } := by
  simp [completeStop]

@[simp] theorem enterStopping_schedule (s : State) (cause : StopCause) :
    (enterStopping s cause).schedule =
      { s.schedule with state := .stopping, active := none, stopCause := some cause } := by
  unfold enterStopping; dsimp only; split <;> simp

/-- The fault policy changes nothing, or aborts an armed run, or stops a run under way (R54). -/
theorem applyFaultPolicy_cases (s : State) :
    applyFaultPolicy s = s ∨
    (s.schedule.faultPolicy = .stop ∧ s.schedule.state = .armed ∧ applyFaultPolicy s = enterAborted s .axisFault) ∨
    (s.schedule.faultPolicy = .stop ∧ (s.schedule.state = .running ∨ s.schedule.state = .dwell) ∧
      applyFaultPolicy s = enterStopping s .axisFault) := by
  unfold applyFaultPolicy
  split <;> simp_all

/-- A further cause at a set latch only joins it (R169). -/
theorem raiseCause_set (s : State) (n : Axis) (c : Cause) (code : Option Byte) (h : (s.latch n).state = .set) :
    raiseCause s n c code =
      s.setLatch n
        { s.latch n with
          alsoSeen := (s.latch n).alsoSeen.insert c, armed := false
          driveCode := if c = .driveFault then code else (s.latch n).driveCode } := by
  simp [raiseCause, h]

/-- The first cause at a clear latch sets it, with the reactions of every neighbour (R167, R168). -/
theorem raiseCause_clear (s : State) (n : Axis) (c : Cause) (code : Option Byte) (h : (s.latch n).state = .clear) :
    raiseCause s n c code =
      faultReactions
        (s.setLatch n
          { s.latch n with
            state := .set, firstCause := some c, faultFrame := some s.clock.f
            driveCode := if c = .driveFault then code else none })
        n c := by
  simp [raiseCause, h]

/-- The record of axis n after a departure; the other records are untouched (R87, R88). -/
@[simp] theorem leaveGroup_axes (s : State) (n : Axis) (sync : SyncState) :
    (leaveGroup s n sync).axes = s.axes.set n ((s.axes.get n).uncouple sync) := by
  unfold leaveGroup; dsimp only; split <;> split <;> simp [State.axis]

/-- A departure changes no pending directive and no placement order. -/
@[simp] theorem recordDeparture_order (s : State) (n : Axis) :
    (recordDeparture s n).directives.order = s.directives.order := rfl

@[simp] theorem leaveGroup_order (s : State) (n : Axis) (sync : SyncState) :
    (leaveGroup s n sync).directives.order = s.directives.order := by
  unfold leaveGroup; dsimp only; split <;> split <;> simp

@[simp] theorem recordDeparture_pending (s : State) (n m : Axis) :
    ((recordDeparture s n).directives.slots.get m).pending = (s.directives.slots.get m).pending := by
  unfold recordDeparture
  by_cases h : m = n <;> simp [State.slot, Four.get_set, h]

@[simp] theorem leaveGroup_pending (s : State) (n m : Axis) (sync : SyncState) :
    ((leaveGroup s n sync).directives.slots.get m).pending = (s.directives.slots.get m).pending := by
  unfold leaveGroup; dsimp only; split <;> split <;> simp

@[simp] theorem releaseAxis_order (s : State) (n : Axis) :
    (releaseAxis s n).directives.order = s.directives.order := by
  unfold releaseAxis; split <;> simp

@[simp] theorem releaseAxis_pending (s : State) (n m : Axis) :
    ((releaseAxis s n).directives.slots.get m).pending = (s.directives.slots.get m).pending := by
  unfold releaseAxis; split <;> simp

@[simp] theorem concludeDirective_order (s : State) (n : Axis) (o : DirectiveOutcome) :
    (concludeDirective s n o).directives.order = s.directives.order.filter (· ≠ n) := rfl

@[simp] theorem concludeDirective_pending (s : State) (n m : Axis) (o : DirectiveOutcome) :
    ((concludeDirective s n o).directives.slots.get m).pending =
      if m = n then none else (s.directives.slots.get m).pending := by
  unfold concludeDirective
  by_cases h : m = n <;> simp [Four.get_set, h]

@[simp] theorem cancelDirective_pending (s : State) (n m : Axis) :
    ((cancelDirective s n).directives.slots.get m).pending =
      if m = n then none else (s.directives.slots.get m).pending := by
  unfold cancelDirective
  split
  · simp
  · next h =>
    by_cases e : m = n
    · subst e; simpa [State.slot] using h
    · simp [e]

end Sys2Proof.Machine
end

