-- ==== Sys2Proof/Laws/Boundary.lean ====
section
/-!
SUPPORT. What each part of a boundary leaves as it was, and how the owed reactions are taken.
-/
namespace Sys2Proof.Machine

/-! ## The engine's reaction -/

@[simp] theorem addDistance_keeps (s : State) :
    (addDistance s).pending = s.pending ∧ (addDistance s).clock = s.clock ∧ (addDistance s).boundary = s.boundary ∧
    (addDistance s).queue = s.queue ∧ (addDistance s).holds = s.holds ∧ (addDistance s).axes = s.axes ∧
    (addDistance s).sync = s.sync ∧ (addDistance s).directives = s.directives ∧ (addDistance s).loss = s.loss ∧
    (addDistance s).road = s.road ∧ (addDistance s).links = s.links ∧ (addDistance s).linkSettings = s.linkSettings ∧
    (addDistance s).latches = s.latches ∧ (addDistance s).safety = s.safety ∧
    (addDistance s).safeStopAsserted = s.safeStopAsserted ∧ (addDistance s).record = s.record ∧
    (addDistance s).trace = s.trace ∧ (addDistance s).receivers = s.receivers ∧
    (addDistance s).heldInReset = s.heldInReset ∧ (addDistance s).drawn = s.drawn := by
  unfold addDistance; split <;> simp

@[simp] theorem takeHead_keeps (s : State) :
    (takeHead s).pending = s.pending ∧ (takeHead s).clock = s.clock ∧ (takeHead s).boundary = s.boundary ∧
    (takeHead s).schedule = s.schedule ∧ (takeHead s).holds = s.holds ∧ (takeHead s).axes = s.axes ∧
    (takeHead s).sync = s.sync ∧ (takeHead s).directives = s.directives ∧ (takeHead s).loss = s.loss ∧
    (takeHead s).road = s.road ∧ (takeHead s).links = s.links ∧ (takeHead s).linkSettings = s.linkSettings ∧
    (takeHead s).latches = s.latches ∧ (takeHead s).safety = s.safety ∧
    (takeHead s).safeStopAsserted = s.safeStopAsserted ∧ (takeHead s).record = s.record ∧
    (takeHead s).trace = s.trace ∧ (takeHead s).receivers = s.receivers ∧ (takeHead s).heldInReset = s.heldInReset ∧
    (takeHead s).drawn = s.drawn := by
  simp [takeHead]

@[simp] theorem applySelection_keeps (s : State) :
    (applySelection s).pending = s.pending ∧ (applySelection s).clock = s.clock ∧
    (applySelection s).boundary = s.boundary ∧ (applySelection s).queue = s.queue ∧
    (applySelection s).schedule = s.schedule ∧ (applySelection s).holds = s.holds ∧ (applySelection s).axes = s.axes ∧
    (applySelection s).sync = s.sync ∧ (applySelection s).directives = s.directives ∧
    (applySelection s).loss = s.loss ∧ (applySelection s).links = s.links ∧
    (applySelection s).linkSettings = s.linkSettings ∧ (applySelection s).latches = s.latches ∧
    (applySelection s).safety = s.safety ∧ (applySelection s).safeStopAsserted = s.safeStopAsserted ∧
    (applySelection s).trace = s.trace ∧ (applySelection s).receivers = s.receivers ∧
    (applySelection s).heldInReset = s.heldInReset ∧ (applySelection s).drawn = s.drawn := by
  unfold applySelection; split <;> (repeat' split) <;> simp

@[simp] theorem placePhase_keeps (s : State) (number segment : Nat) :
    (placePhase s number segment).pending = s.pending ∧ (placePhase s number segment).clock = s.clock ∧
    (placePhase s number segment).boundary = s.boundary ∧ (placePhase s number segment).queue = s.queue ∧
    (placePhase s number segment).schedule = s.schedule ∧ (placePhase s number segment).holds = s.holds ∧
    (placePhase s number segment).axes = s.axes ∧ (placePhase s number segment).sync = s.sync ∧
    (placePhase s number segment).directives = s.directives ∧ (placePhase s number segment).loss = s.loss ∧
    (placePhase s number segment).road = s.road ∧ (placePhase s number segment).links = s.links ∧
    (placePhase s number segment).linkSettings = s.linkSettings ∧ (placePhase s number segment).latches = s.latches ∧
    (placePhase s number segment).safety = s.safety ∧
    (placePhase s number segment).safeStopAsserted = s.safeStopAsserted ∧
    (placePhase s number segment).trace = s.trace ∧ (placePhase s number segment).receivers = s.receivers ∧
    (placePhase s number segment).heldInReset = s.heldInReset ∧ (placePhase s number segment).drawn = s.drawn := by
  unfold placePhase; split <;> simp

@[simp] theorem driveLines_keeps (s : State) (lines : Lines) :
    (driveLines s lines).pending = s.pending ∧ (driveLines s lines).boundary = s.boundary ∧
    (driveLines s lines).queue = s.queue ∧ (driveLines s lines).schedule = s.schedule ∧
    (driveLines s lines).holds = s.holds ∧ (driveLines s lines).axes = s.axes ∧ (driveLines s lines).sync = s.sync ∧
    (driveLines s lines).directives = s.directives ∧ (driveLines s lines).loss = s.loss ∧
    (driveLines s lines).road = s.road ∧ (driveLines s lines).links = s.links ∧
    (driveLines s lines).linkSettings = s.linkSettings ∧ (driveLines s lines).latches = s.latches ∧
    (driveLines s lines).safety = s.safety ∧ (driveLines s lines).safeStopAsserted = s.safeStopAsserted ∧
    (driveLines s lines).record = s.record ∧ (driveLines s lines).trace = s.trace ∧
    (driveLines s lines).receivers = s.receivers ∧ (driveLines s lines).heldInReset = s.heldInReset ∧
    (driveLines s lines).drawn = s.drawn := by
  simp [driveLines]

@[simp] theorem placeItems_keeps (s : State) (items : List DirectiveItem) :
    (placeItems s items).pending = s.pending ∧ (placeItems s items).clock = s.clock ∧
    (placeItems s items).boundary = s.boundary ∧ (placeItems s items).queue = s.queue ∧
    (placeItems s items).schedule = s.schedule ∧ (placeItems s items).holds = s.holds ∧
    (placeItems s items).axes = s.axes ∧ (placeItems s items).sync = s.sync ∧ (placeItems s items).loss = s.loss ∧
    (placeItems s items).road = s.road ∧ (placeItems s items).links = s.links ∧
    (placeItems s items).linkSettings = s.linkSettings ∧ (placeItems s items).latches = s.latches ∧
    (placeItems s items).safety = s.safety ∧ (placeItems s items).safeStopAsserted = s.safeStopAsserted ∧
    (placeItems s items).record = s.record ∧ (placeItems s items).trace = s.trace ∧
    (placeItems s items).receivers = s.receivers ∧ (placeItems s items).heldInReset = s.heldInReset ∧
    (placeItems s items).drawn = s.drawn := by
  unfold placeItems
  generalize Sys2Proof.axes = xs
  induction xs generalizing s with
  | nil => simp
  | cons x xs ih =>
    simp only [List.foldl_cons, ih]
    split <;> simp

@[simp] theorem placeAutoReleases_keeps (s : State) :
    (placeAutoReleases s).pending = s.pending ∧ (placeAutoReleases s).clock = s.clock ∧
    (placeAutoReleases s).boundary = s.boundary ∧ (placeAutoReleases s).queue = s.queue ∧
    (placeAutoReleases s).schedule = s.schedule ∧ (placeAutoReleases s).holds = s.holds ∧
    (placeAutoReleases s).axes = s.axes ∧ (placeAutoReleases s).sync = s.sync ∧ (placeAutoReleases s).loss = s.loss ∧
    (placeAutoReleases s).road = s.road ∧ (placeAutoReleases s).links = s.links ∧
    (placeAutoReleases s).linkSettings = s.linkSettings ∧ (placeAutoReleases s).latches = s.latches ∧
    (placeAutoReleases s).safety = s.safety ∧ (placeAutoReleases s).safeStopAsserted = s.safeStopAsserted ∧
    (placeAutoReleases s).record = s.record ∧ (placeAutoReleases s).trace = s.trace ∧
    (placeAutoReleases s).receivers = s.receivers ∧ (placeAutoReleases s).heldInReset = s.heldInReset ∧
    (placeAutoReleases s).drawn = s.drawn := by
  unfold placeAutoReleases
  generalize Sys2Proof.axes = xs
  induction xs generalizing s with
  | nil => simp
  | cons x xs ih =>
    simp only [List.foldl_cons, ih]
    split <;> simp

@[simp] theorem handStart_keeps (s : State) (g : Segment) :
    (handStart s g).pending = s.pending ∧ (handStart s g).boundary = s.boundary ∧ (handStart s g).queue = s.queue ∧
    (handStart s g).schedule = s.schedule ∧ (handStart s g).holds = s.holds ∧ (handStart s g).axes = s.axes ∧
    (handStart s g).sync = s.sync ∧ (handStart s g).loss = s.loss ∧ (handStart s g).links = s.links ∧
    (handStart s g).linkSettings = s.linkSettings ∧ (handStart s g).latches = s.latches ∧
    (handStart s g).safety = s.safety ∧ (handStart s g).safeStopAsserted = s.safeStopAsserted ∧
    (handStart s g).trace = s.trace ∧ (handStart s g).receivers = s.receivers ∧
    (handStart s g).heldInReset = s.heldInReset ∧ (handStart s g).drawn = s.drawn := by
  unfold handStart; dsimp only; split <;> simp

@[simp] theorem beginSegment_keeps (s : State) (g : Segment) :
    (beginSegment s g).pending = s.pending ∧ (beginSegment s g).clock = s.clock ∧
    (beginSegment s g).boundary = s.boundary ∧ (beginSegment s g).queue = s.queue ∧
    (beginSegment s g).holds = s.holds ∧ (beginSegment s g).axes = s.axes ∧ (beginSegment s g).sync = s.sync ∧
    (beginSegment s g).directives = s.directives ∧ (beginSegment s g).loss = s.loss ∧
    (beginSegment s g).road = s.road ∧ (beginSegment s g).links = s.links ∧
    (beginSegment s g).linkSettings = s.linkSettings ∧ (beginSegment s g).latches = s.latches ∧
    (beginSegment s g).safety = s.safety ∧ (beginSegment s g).safeStopAsserted = s.safeStopAsserted ∧
    (beginSegment s g).record = s.record ∧ (beginSegment s g).trace = s.trace ∧
    (beginSegment s g).receivers = s.receivers ∧ (beginSegment s g).heldInReset = s.heldInReset ∧
    (beginSegment s g).drawn = s.drawn := by
  simp [beginSegment]

@[simp] theorem startSegment_keeps (s : State) (g : Segment) :
    (startSegment s g).pending = s.pending ∧ (startSegment s g).boundary = s.boundary ∧
    (startSegment s g).holds = s.holds ∧ (startSegment s g).axes = s.axes ∧ (startSegment s g).sync = s.sync ∧
    (startSegment s g).loss = s.loss ∧ (startSegment s g).links = s.links ∧
    (startSegment s g).linkSettings = s.linkSettings ∧ (startSegment s g).latches = s.latches ∧
    (startSegment s g).safety = s.safety ∧ (startSegment s g).safeStopAsserted = s.safeStopAsserted ∧
    (startSegment s g).trace = s.trace ∧ (startSegment s g).receivers = s.receivers ∧
    (startSegment s g).heldInReset = s.heldInReset ∧ (startSegment s g).drawn = s.drawn := by
  unfold startSegment; dsimp only; split <;> simp

@[simp] theorem takeAtGate_keeps (s : State) :
    (takeAtGate s).pending = s.pending ∧ (takeAtGate s).boundary = s.boundary ∧ (takeAtGate s).holds = s.holds ∧
    (takeAtGate s).axes = s.axes ∧ (takeAtGate s).sync = s.sync ∧ (takeAtGate s).loss = s.loss ∧
    (takeAtGate s).links = s.links ∧ (takeAtGate s).linkSettings = s.linkSettings ∧
    (takeAtGate s).latches = s.latches ∧ (takeAtGate s).safety = s.safety ∧
    (takeAtGate s).safeStopAsserted = s.safeStopAsserted ∧ (takeAtGate s).trace = s.trace ∧
    (takeAtGate s).receivers = s.receivers ∧ (takeAtGate s).heldInReset = s.heldInReset ∧
    (takeAtGate s).drawn = s.drawn := by
  unfold takeAtGate; split <;> (repeat' split) <;> simp

@[simp] theorem enterDwell_keeps (s : State) :
    (enterDwell s).pending = s.pending ∧ (enterDwell s).clock = s.clock ∧ (enterDwell s).boundary = s.boundary ∧
    (enterDwell s).queue = s.queue ∧ (enterDwell s).holds = s.holds ∧ (enterDwell s).axes = s.axes ∧
    (enterDwell s).sync = s.sync ∧ (enterDwell s).directives = s.directives ∧ (enterDwell s).loss = s.loss ∧
    (enterDwell s).road = s.road ∧ (enterDwell s).links = s.links ∧ (enterDwell s).linkSettings = s.linkSettings ∧
    (enterDwell s).latches = s.latches ∧ (enterDwell s).safety = s.safety ∧
    (enterDwell s).safeStopAsserted = s.safeStopAsserted ∧ (enterDwell s).trace = s.trace ∧
    (enterDwell s).receivers = s.receivers ∧ (enterDwell s).heldInReset = s.heldInReset ∧
    (enterDwell s).drawn = s.drawn := by
  simp [enterDwell]

@[simp] theorem reactArmed_keeps (s : State) :
    (reactArmed s).pending = s.pending ∧ (reactArmed s).boundary = s.boundary ∧ (reactArmed s).holds = s.holds ∧
    (reactArmed s).axes = s.axes ∧ (reactArmed s).sync = s.sync ∧ (reactArmed s).loss = s.loss ∧
    (reactArmed s).links = s.links ∧ (reactArmed s).linkSettings = s.linkSettings ∧
    (reactArmed s).latches = s.latches ∧ (reactArmed s).safety = s.safety ∧
    (reactArmed s).safeStopAsserted = s.safeStopAsserted ∧ (reactArmed s).trace = s.trace ∧
    (reactArmed s).receivers = s.receivers ∧ (reactArmed s).heldInReset = s.heldInReset ∧
    (reactArmed s).drawn = s.drawn := by
  unfold reactArmed; split <;> simp

@[simp] theorem progress_keeps (s : State) (a : ActiveSegment) :
    (progress s a).pending = s.pending ∧ (progress s a).clock = s.clock ∧ (progress s a).boundary = s.boundary ∧
    (progress s a).queue = s.queue ∧ (progress s a).holds = s.holds ∧ (progress s a).axes = s.axes ∧
    (progress s a).sync = s.sync ∧ (progress s a).directives = s.directives ∧ (progress s a).loss = s.loss ∧
    (progress s a).road = s.road ∧ (progress s a).links = s.links ∧ (progress s a).linkSettings = s.linkSettings ∧
    (progress s a).latches = s.latches ∧ (progress s a).safety = s.safety ∧
    (progress s a).safeStopAsserted = s.safeStopAsserted ∧ (progress s a).record = s.record ∧
    (progress s a).trace = s.trace ∧ (progress s a).receivers = s.receivers ∧
    (progress s a).heldInReset = s.heldInReset ∧ (progress s a).drawn = s.drawn := by
  simp [progress]

@[simp] theorem endSegment_keeps (s : State) (g : Segment) :
    (endSegment s g).pending = s.pending ∧ (endSegment s g).clock = s.clock ∧ (endSegment s g).boundary = s.boundary ∧
    (endSegment s g).queue = s.queue ∧ (endSegment s g).holds = s.holds ∧ (endSegment s g).axes = s.axes ∧
    (endSegment s g).sync = s.sync ∧ (endSegment s g).loss = s.loss ∧ (endSegment s g).road = s.road ∧
    (endSegment s g).links = s.links ∧ (endSegment s g).linkSettings = s.linkSettings ∧
    (endSegment s g).latches = s.latches ∧ (endSegment s g).safety = s.safety ∧
    (endSegment s g).safeStopAsserted = s.safeStopAsserted ∧ (endSegment s g).record = s.record ∧
    (endSegment s g).trace = s.trace ∧ (endSegment s g).receivers = s.receivers ∧
    (endSegment s g).heldInReset = s.heldInReset ∧ (endSegment s g).drawn = s.drawn := by
  unfold endSegment; dsimp only; split <;> simp

@[simp] theorem passGate_keeps (s : State) :
    (passGate s).pending = s.pending ∧ (passGate s).boundary = s.boundary ∧ (passGate s).holds = s.holds ∧
    (passGate s).axes = s.axes ∧ (passGate s).sync = s.sync ∧ (passGate s).loss = s.loss ∧
    (passGate s).links = s.links ∧ (passGate s).linkSettings = s.linkSettings ∧ (passGate s).latches = s.latches ∧
    (passGate s).safety = s.safety ∧ (passGate s).safeStopAsserted = s.safeStopAsserted ∧
    (passGate s).trace = s.trace ∧ (passGate s).receivers = s.receivers ∧ (passGate s).heldInReset = s.heldInReset ∧
    (passGate s).drawn = s.drawn := by
  unfold passGate; split <;> simp

@[simp] theorem countDwell_keeps (s : State) :
    (countDwell s).pending = s.pending ∧ (countDwell s).clock = s.clock ∧ (countDwell s).boundary = s.boundary ∧
    (countDwell s).queue = s.queue ∧ (countDwell s).holds = s.holds ∧ (countDwell s).axes = s.axes ∧
    (countDwell s).sync = s.sync ∧ (countDwell s).directives = s.directives ∧ (countDwell s).loss = s.loss ∧
    (countDwell s).road = s.road ∧ (countDwell s).links = s.links ∧ (countDwell s).linkSettings = s.linkSettings ∧
    (countDwell s).latches = s.latches ∧ (countDwell s).safety = s.safety ∧
    (countDwell s).safeStopAsserted = s.safeStopAsserted ∧ (countDwell s).record = s.record ∧
    (countDwell s).trace = s.trace ∧ (countDwell s).receivers = s.receivers ∧
    (countDwell s).heldInReset = s.heldInReset ∧ (countDwell s).drawn = s.drawn := by
  simp [countDwell]

@[simp] theorem rampDown_keeps (s : State) :
    (rampDown s).pending = s.pending ∧ (rampDown s).clock = s.clock ∧ (rampDown s).boundary = s.boundary ∧
    (rampDown s).queue = s.queue ∧ (rampDown s).holds = s.holds ∧ (rampDown s).axes = s.axes ∧
    (rampDown s).sync = s.sync ∧ (rampDown s).directives = s.directives ∧ (rampDown s).loss = s.loss ∧
    (rampDown s).road = s.road ∧ (rampDown s).links = s.links ∧ (rampDown s).linkSettings = s.linkSettings ∧
    (rampDown s).latches = s.latches ∧ (rampDown s).safety = s.safety ∧
    (rampDown s).safeStopAsserted = s.safeStopAsserted ∧ (rampDown s).record = s.record ∧
    (rampDown s).trace = s.trace ∧ (rampDown s).receivers = s.receivers ∧ (rampDown s).heldInReset = s.heldInReset ∧
    (rampDown s).drawn = s.drawn := by
  simp [rampDown]

@[simp] theorem reactRunning_keeps (s : State) :
    (reactRunning s).pending = s.pending ∧ (reactRunning s).boundary = s.boundary ∧ (reactRunning s).holds = s.holds ∧
    (reactRunning s).axes = s.axes ∧ (reactRunning s).sync = s.sync ∧ (reactRunning s).loss = s.loss ∧
    (reactRunning s).links = s.links ∧ (reactRunning s).linkSettings = s.linkSettings ∧
    (reactRunning s).latches = s.latches ∧ (reactRunning s).safety = s.safety ∧
    (reactRunning s).safeStopAsserted = s.safeStopAsserted ∧ (reactRunning s).trace = s.trace ∧
    (reactRunning s).receivers = s.receivers ∧ (reactRunning s).heldInReset = s.heldInReset ∧
    (reactRunning s).drawn = s.drawn := by
  unfold reactRunning; split <;> (repeat' split) <;> simp

@[simp] theorem reactDwell_keeps (s : State) :
    (reactDwell s).pending = s.pending ∧ (reactDwell s).boundary = s.boundary ∧ (reactDwell s).holds = s.holds ∧
    (reactDwell s).axes = s.axes ∧ (reactDwell s).sync = s.sync ∧ (reactDwell s).loss = s.loss ∧
    (reactDwell s).links = s.links ∧ (reactDwell s).linkSettings = s.linkSettings ∧
    (reactDwell s).latches = s.latches ∧ (reactDwell s).safety = s.safety ∧
    (reactDwell s).safeStopAsserted = s.safeStopAsserted ∧ (reactDwell s).trace = s.trace ∧
    (reactDwell s).receivers = s.receivers ∧ (reactDwell s).heldInReset = s.heldInReset ∧
    (reactDwell s).drawn = s.drawn := by
  unfold reactDwell; dsimp only; split <;> (repeat' split) <;> simp

@[simp] theorem reactStopping_keeps (s : State) :
    (reactStopping s).pending = s.pending ∧ (reactStopping s).boundary = s.boundary ∧
    (reactStopping s).holds = s.holds ∧ (reactStopping s).axes = s.axes ∧ (reactStopping s).sync = s.sync ∧
    (reactStopping s).loss = s.loss ∧ (reactStopping s).links = s.links ∧
    (reactStopping s).linkSettings = s.linkSettings ∧ (reactStopping s).latches = s.latches ∧
    (reactStopping s).safety = s.safety ∧ (reactStopping s).safeStopAsserted = s.safeStopAsserted ∧
    (reactStopping s).trace = s.trace ∧ (reactStopping s).receivers = s.receivers ∧
    (reactStopping s).heldInReset = s.heldInReset ∧ (reactStopping s).drawn = s.drawn := by
  unfold reactStopping; dsimp only; split <;> simp

@[simp] theorem reactSchedule_keeps (s : State) :
    (reactSchedule s).pending = s.pending ∧ (reactSchedule s).boundary = s.boundary ∧
    (reactSchedule s).holds = s.holds ∧ (reactSchedule s).axes = s.axes ∧ (reactSchedule s).sync = s.sync ∧
    (reactSchedule s).loss = s.loss ∧ (reactSchedule s).links = s.links ∧
    (reactSchedule s).linkSettings = s.linkSettings ∧ (reactSchedule s).latches = s.latches ∧
    (reactSchedule s).safety = s.safety ∧ (reactSchedule s).safeStopAsserted = s.safeStopAsserted ∧
    (reactSchedule s).trace = s.trace ∧ (reactSchedule s).receivers = s.receivers ∧
    (reactSchedule s).heldInReset = s.heldInReset ∧ (reactSchedule s).drawn = s.drawn := by
  unfold reactSchedule; split <;> simp

@[simp] theorem scheduleReaction_keeps (s : State) :
    (scheduleReaction s).pending = s.pending ∧ (scheduleReaction s).boundary = s.boundary ∧
    (scheduleReaction s).holds = s.holds ∧ (scheduleReaction s).axes = s.axes ∧ (scheduleReaction s).sync = s.sync ∧
    (scheduleReaction s).loss = s.loss ∧ (scheduleReaction s).links = s.links ∧
    (scheduleReaction s).linkSettings = s.linkSettings ∧ (scheduleReaction s).latches = s.latches ∧
    (scheduleReaction s).safety = s.safety ∧ (scheduleReaction s).safeStopAsserted = s.safeStopAsserted ∧
    (scheduleReaction s).receivers = s.receivers ∧ (scheduleReaction s).heldInReset = s.heldInReset ∧
    (scheduleReaction s).drawn = s.drawn := by
  simp [scheduleReaction]

/-! ## The other blocks' reactions -/

@[simp] theorem applyEngage_keeps (s : State) (n : Axis) (g : Group) :
    (applyEngage s n g).pending = s.pending ∧ (applyEngage s n g).clock = s.clock ∧
    (applyEngage s n g).boundary = s.boundary ∧ (applyEngage s n g).queue = s.queue ∧
    (applyEngage s n g).schedule = s.schedule ∧ (applyEngage s n g).holds = s.holds ∧
    (applyEngage s n g).sync = s.sync ∧ (applyEngage s n g).loss = s.loss ∧ (applyEngage s n g).road = s.road ∧
    (applyEngage s n g).links = s.links ∧ (applyEngage s n g).linkSettings = s.linkSettings ∧
    (applyEngage s n g).latches = s.latches ∧ (applyEngage s n g).safety = s.safety ∧
    (applyEngage s n g).safeStopAsserted = s.safeStopAsserted ∧ (applyEngage s n g).record = s.record ∧
    (applyEngage s n g).trace = s.trace ∧ (applyEngage s n g).receivers = s.receivers ∧
    (applyEngage s n g).heldInReset = s.heldInReset ∧ (applyEngage s n g).drawn = s.drawn := by
  simp [applyEngage]

@[simp] theorem applyRelease_keeps (s : State) (n : Axis) :
    (applyRelease s n).pending = s.pending ∧ (applyRelease s n).clock = s.clock ∧
    (applyRelease s n).boundary = s.boundary ∧ (applyRelease s n).queue = s.queue ∧
    (applyRelease s n).schedule = s.schedule ∧ (applyRelease s n).holds = s.holds ∧ (applyRelease s n).sync = s.sync ∧
    (applyRelease s n).loss = s.loss ∧ (applyRelease s n).road = s.road ∧ (applyRelease s n).links = s.links ∧
    (applyRelease s n).linkSettings = s.linkSettings ∧ (applyRelease s n).latches = s.latches ∧
    (applyRelease s n).safety = s.safety ∧ (applyRelease s n).safeStopAsserted = s.safeStopAsserted ∧
    (applyRelease s n).trace = s.trace ∧ (applyRelease s n).receivers = s.receivers ∧
    (applyRelease s n).heldInReset = s.heldInReset ∧ (applyRelease s n).drawn = s.drawn := by
  simp [applyRelease]

@[simp] theorem considerDirective_keeps (s : State) (n : Axis) :
    (considerDirective s n).pending = s.pending ∧ (considerDirective s n).clock = s.clock ∧
    (considerDirective s n).boundary = s.boundary ∧ (considerDirective s n).queue = s.queue ∧
    (considerDirective s n).schedule = s.schedule ∧ (considerDirective s n).holds = s.holds ∧
    (considerDirective s n).sync = s.sync ∧ (considerDirective s n).loss = s.loss ∧
    (considerDirective s n).road = s.road ∧ (considerDirective s n).links = s.links ∧
    (considerDirective s n).linkSettings = s.linkSettings ∧ (considerDirective s n).latches = s.latches ∧
    (considerDirective s n).safety = s.safety ∧ (considerDirective s n).safeStopAsserted = s.safeStopAsserted ∧
    (considerDirective s n).trace = s.trace ∧ (considerDirective s n).receivers = s.receivers ∧
    (considerDirective s n).heldInReset = s.heldInReset ∧ (considerDirective s n).drawn = s.drawn := by
  unfold considerDirective; split <;> (repeat' split) <;> simp

theorem considerReleases_keeps (s : State) (xs : List Axis) :
    (xs.foldl (fun acc n => if pendingRelease acc n then considerDirective acc n else acc) s).pending = s.pending ∧
    (xs.foldl (fun acc n => if pendingRelease acc n then considerDirective acc n else acc) s).clock = s.clock ∧
    (xs.foldl (fun acc n => if pendingRelease acc n then considerDirective acc n else acc) s).boundary = s.boundary ∧
    (xs.foldl (fun acc n => if pendingRelease acc n then considerDirective acc n else acc) s).queue = s.queue ∧
    (xs.foldl (fun acc n => if pendingRelease acc n then considerDirective acc n else acc) s).schedule = s.schedule ∧
    (xs.foldl (fun acc n => if pendingRelease acc n then considerDirective acc n else acc) s).holds = s.holds ∧
    (xs.foldl (fun acc n => if pendingRelease acc n then considerDirective acc n else acc) s).sync = s.sync ∧
    (xs.foldl (fun acc n => if pendingRelease acc n then considerDirective acc n else acc) s).loss = s.loss ∧
    (xs.foldl (fun acc n => if pendingRelease acc n then considerDirective acc n else acc) s).road = s.road ∧
    (xs.foldl (fun acc n => if pendingRelease acc n then considerDirective acc n else acc) s).links = s.links ∧
    (xs.foldl (fun acc n => if pendingRelease acc n then considerDirective acc n else acc) s).linkSettings = s.linkSettings ∧
    (xs.foldl (fun acc n => if pendingRelease acc n then considerDirective acc n else acc) s).latches = s.latches ∧
    (xs.foldl (fun acc n => if pendingRelease acc n then considerDirective acc n else acc) s).safety = s.safety ∧
    (xs.foldl (fun acc n => if pendingRelease acc n then considerDirective acc n else acc) s).safeStopAsserted = s.safeStopAsserted ∧
    (xs.foldl (fun acc n => if pendingRelease acc n then considerDirective acc n else acc) s).trace = s.trace ∧
    (xs.foldl (fun acc n => if pendingRelease acc n then considerDirective acc n else acc) s).receivers = s.receivers ∧
    (xs.foldl (fun acc n => if pendingRelease acc n then considerDirective acc n else acc) s).heldInReset = s.heldInReset ∧
    (xs.foldl (fun acc n => if pendingRelease acc n then considerDirective acc n else acc) s).drawn = s.drawn := by
  induction xs generalizing s with
  | nil => simp
  | cons x xs ih =>
    simp only [List.foldl_cons, ih]
    split <;> simp

theorem considerEngages_keeps (s : State) (xs : List Axis) :
    (xs.foldl (fun acc n => if pendingEngage acc n then considerDirective acc n else acc) s).pending = s.pending ∧
    (xs.foldl (fun acc n => if pendingEngage acc n then considerDirective acc n else acc) s).clock = s.clock ∧
    (xs.foldl (fun acc n => if pendingEngage acc n then considerDirective acc n else acc) s).boundary = s.boundary ∧
    (xs.foldl (fun acc n => if pendingEngage acc n then considerDirective acc n else acc) s).queue = s.queue ∧
    (xs.foldl (fun acc n => if pendingEngage acc n then considerDirective acc n else acc) s).schedule = s.schedule ∧
    (xs.foldl (fun acc n => if pendingEngage acc n then considerDirective acc n else acc) s).holds = s.holds ∧
    (xs.foldl (fun acc n => if pendingEngage acc n then considerDirective acc n else acc) s).sync = s.sync ∧
    (xs.foldl (fun acc n => if pendingEngage acc n then considerDirective acc n else acc) s).loss = s.loss ∧
    (xs.foldl (fun acc n => if pendingEngage acc n then considerDirective acc n else acc) s).road = s.road ∧
    (xs.foldl (fun acc n => if pendingEngage acc n then considerDirective acc n else acc) s).links = s.links ∧
    (xs.foldl (fun acc n => if pendingEngage acc n then considerDirective acc n else acc) s).linkSettings = s.linkSettings ∧
    (xs.foldl (fun acc n => if pendingEngage acc n then considerDirective acc n else acc) s).latches = s.latches ∧
    (xs.foldl (fun acc n => if pendingEngage acc n then considerDirective acc n else acc) s).safety = s.safety ∧
    (xs.foldl (fun acc n => if pendingEngage acc n then considerDirective acc n else acc) s).safeStopAsserted = s.safeStopAsserted ∧
    (xs.foldl (fun acc n => if pendingEngage acc n then considerDirective acc n else acc) s).trace = s.trace ∧
    (xs.foldl (fun acc n => if pendingEngage acc n then considerDirective acc n else acc) s).receivers = s.receivers ∧
    (xs.foldl (fun acc n => if pendingEngage acc n then considerDirective acc n else acc) s).heldInReset = s.heldInReset ∧
    (xs.foldl (fun acc n => if pendingEngage acc n then considerDirective acc n else acc) s).drawn = s.drawn := by
  induction xs generalizing s with
  | nil => simp
  | cons x xs ih =>
    simp only [List.foldl_cons, ih]
    split <;> simp

@[simp] theorem directivesReaction_keeps (s : State) :
    (directivesReaction s).pending = s.pending ∧ (directivesReaction s).clock = s.clock ∧
    (directivesReaction s).boundary = s.boundary ∧ (directivesReaction s).queue = s.queue ∧
    (directivesReaction s).schedule = s.schedule ∧ (directivesReaction s).holds = s.holds ∧
    (directivesReaction s).sync = s.sync ∧ (directivesReaction s).loss = s.loss ∧
    (directivesReaction s).road = s.road ∧ (directivesReaction s).links = s.links ∧
    (directivesReaction s).linkSettings = s.linkSettings ∧ (directivesReaction s).latches = s.latches ∧
    (directivesReaction s).safety = s.safety ∧ (directivesReaction s).safeStopAsserted = s.safeStopAsserted ∧
    (directivesReaction s).trace = s.trace ∧ (directivesReaction s).receivers = s.receivers ∧
    (directivesReaction s).heldInReset = s.heldInReset ∧ (directivesReaction s).drawn = s.drawn := by
  simp [directivesReaction, considerReleases_keeps, considerEngages_keeps]

@[simp] theorem expireHold_keeps (s : State) (who : Holder) :
    (expireHold s who).pending = s.pending ∧ (expireHold s who).clock = s.clock ∧
    (expireHold s who).boundary = s.boundary ∧ (expireHold s who).queue = s.queue ∧
    (expireHold s who).schedule = s.schedule ∧ (expireHold s who).axes = s.axes ∧ (expireHold s who).sync = s.sync ∧
    (expireHold s who).directives = s.directives ∧ (expireHold s who).loss = s.loss ∧
    (expireHold s who).road = s.road ∧ (expireHold s who).links = s.links ∧
    (expireHold s who).linkSettings = s.linkSettings ∧ (expireHold s who).latches = s.latches ∧
    (expireHold s who).safety = s.safety ∧ (expireHold s who).safeStopAsserted = s.safeStopAsserted ∧
    (expireHold s who).trace = s.trace ∧ (expireHold s who).receivers = s.receivers ∧
    (expireHold s who).heldInReset = s.heldInReset ∧ (expireHold s who).drawn = s.drawn := by
  unfold expireHold; split <;> (repeat' split) <;> simp

@[simp] theorem holdsReaction_keeps (s : State) :
    (holdsReaction s).pending = s.pending ∧ (holdsReaction s).clock = s.clock ∧
    (holdsReaction s).boundary = s.boundary ∧ (holdsReaction s).queue = s.queue ∧
    (holdsReaction s).schedule = s.schedule ∧ (holdsReaction s).axes = s.axes ∧ (holdsReaction s).sync = s.sync ∧
    (holdsReaction s).directives = s.directives ∧ (holdsReaction s).loss = s.loss ∧ (holdsReaction s).road = s.road ∧
    (holdsReaction s).links = s.links ∧ (holdsReaction s).linkSettings = s.linkSettings ∧
    (holdsReaction s).latches = s.latches ∧ (holdsReaction s).safety = s.safety ∧
    (holdsReaction s).safeStopAsserted = s.safeStopAsserted ∧ (holdsReaction s).trace = s.trace ∧
    (holdsReaction s).receivers = s.receivers ∧ (holdsReaction s).heldInReset = s.heldInReset ∧
    (holdsReaction s).drawn = s.drawn := by
  unfold holdsReaction
  generalize holders = xs
  induction xs generalizing s with
  | nil => simp
  | cons x xs ih =>
    simp only [List.foldl_cons, ih]
    simp

@[simp] theorem linkReaction_keeps (s : State) (n : Axis) :
    (linkReaction s n).pending = s.pending ∧ (linkReaction s n).clock = s.clock ∧
    (linkReaction s n).boundary = s.boundary ∧ (linkReaction s n).queue = s.queue ∧ (linkReaction s n).sync = s.sync ∧
    (linkReaction s n).loss = s.loss ∧ (linkReaction s n).linkSettings = s.linkSettings ∧
    (linkReaction s n).safety = s.safety ∧ (linkReaction s n).safeStopAsserted = s.safeStopAsserted ∧
    (linkReaction s n).trace = s.trace ∧ (linkReaction s n).receivers = s.receivers ∧
    (linkReaction s n).heldInReset = s.heldInReset ∧ (linkReaction s n).drawn = s.drawn := by
  unfold linkReaction; split <;> simp

@[simp] theorem traceReaction_keeps (s : State) :
    (traceReaction s).pending = s.pending ∧ (traceReaction s).clock = s.clock ∧
    (traceReaction s).boundary = s.boundary ∧ (traceReaction s).queue = s.queue ∧
    (traceReaction s).schedule = s.schedule ∧ (traceReaction s).holds = s.holds ∧ (traceReaction s).axes = s.axes ∧
    (traceReaction s).sync = s.sync ∧ (traceReaction s).directives = s.directives ∧ (traceReaction s).loss = s.loss ∧
    (traceReaction s).road = s.road ∧ (traceReaction s).links = s.links ∧
    (traceReaction s).linkSettings = s.linkSettings ∧ (traceReaction s).latches = s.latches ∧
    (traceReaction s).safety = s.safety ∧ (traceReaction s).safeStopAsserted = s.safeStopAsserted ∧
    (traceReaction s).receivers = s.receivers ∧ (traceReaction s).heldInReset = s.heldInReset ∧
    (traceReaction s).drawn = s.drawn := by
  unfold traceReaction; dsimp only; split <;> (repeat' split) <;> simp

@[simp] theorem haltClock_keeps (s : State) (rest : Nat) :
    (haltClock s rest).pending = s.pending ∧ (haltClock s rest).boundary = s.boundary ∧
    (haltClock s rest).queue = s.queue ∧ (haltClock s rest).schedule = s.schedule ∧
    (haltClock s rest).holds = s.holds ∧ (haltClock s rest).axes = s.axes ∧ (haltClock s rest).sync = s.sync ∧
    (haltClock s rest).directives = s.directives ∧ (haltClock s rest).loss = s.loss ∧
    (haltClock s rest).road = s.road ∧ (haltClock s rest).links = s.links ∧
    (haltClock s rest).linkSettings = s.linkSettings ∧ (haltClock s rest).latches = s.latches ∧
    (haltClock s rest).safety = s.safety ∧ (haltClock s rest).safeStopAsserted = s.safeStopAsserted ∧
    (haltClock s rest).record = s.record ∧ (haltClock s rest).trace = s.trace ∧
    (haltClock s rest).receivers = s.receivers ∧ (haltClock s rest).heldInReset = s.heldInReset ∧
    (haltClock s rest).drawn = s.drawn := by
  simp [haltClock]

@[simp] theorem limitReaction_keeps (s : State) :
    (limitReaction s).pending = s.pending ∧ (limitReaction s).boundary = s.boundary ∧
    (limitReaction s).queue = s.queue ∧ (limitReaction s).holds = s.holds ∧ (limitReaction s).axes = s.axes ∧
    (limitReaction s).sync = s.sync ∧ (limitReaction s).directives = s.directives ∧ (limitReaction s).loss = s.loss ∧
    (limitReaction s).links = s.links ∧ (limitReaction s).linkSettings = s.linkSettings ∧
    (limitReaction s).latches = s.latches ∧ (limitReaction s).safety = s.safety ∧
    (limitReaction s).safeStopAsserted = s.safeStopAsserted ∧ (limitReaction s).trace = s.trace ∧
    (limitReaction s).receivers = s.receivers ∧ (limitReaction s).heldInReset = s.heldInReset ∧
    (limitReaction s).drawn = s.drawn := by
  unfold limitReaction; dsimp only; split <;> (repeat' split) <;> simp

@[simp] theorem react_keeps (s : State) (r : Reaction) :
    (react r s).pending = s.pending ∧ (react r s).boundary = s.boundary ∧ (react r s).sync = s.sync ∧
    (react r s).loss = s.loss ∧ (react r s).linkSettings = s.linkSettings ∧ (react r s).safety = s.safety ∧
    (react r s).safeStopAsserted = s.safeStopAsserted ∧ (react r s).receivers = s.receivers ∧
    (react r s).heldInReset = s.heldInReset ∧ (react r s).drawn = s.drawn := by
  cases r <;> simp [react]

@[simp] theorem beginBoundary_keeps (s : State) :
    (beginBoundary s).pending = s.pending ∧ (beginBoundary s).queue = s.queue ∧ (beginBoundary s).holds = s.holds ∧
    (beginBoundary s).axes = s.axes ∧ (beginBoundary s).sync = s.sync ∧ (beginBoundary s).directives = s.directives ∧
    (beginBoundary s).loss = s.loss ∧ (beginBoundary s).road = s.road ∧ (beginBoundary s).links = s.links ∧
    (beginBoundary s).linkSettings = s.linkSettings ∧ (beginBoundary s).latches = s.latches ∧
    (beginBoundary s).safety = s.safety ∧ (beginBoundary s).safeStopAsserted = s.safeStopAsserted ∧
    (beginBoundary s).record = s.record ∧ (beginBoundary s).trace = s.trace ∧
    (beginBoundary s).receivers = s.receivers ∧ (beginBoundary s).heldInReset = s.heldInReset ∧
    (beginBoundary s).drawn = s.drawn := by
  simp [beginBoundary]

/-! ## Taking the reactions -/

@[simp] theorem takeOwed_keeps (s : State) (r : Reaction) :
    (takeOwed s r).pending = s.pending ∧ (takeOwed s r).sync = s.sync ∧ (takeOwed s r).loss = s.loss ∧
    (takeOwed s r).linkSettings = s.linkSettings ∧ (takeOwed s r).safety = s.safety ∧
    (takeOwed s r).safeStopAsserted = s.safeStopAsserted ∧ (takeOwed s r).receivers = s.receivers ∧
    (takeOwed s r).heldInReset = s.heldInReset ∧ (takeOwed s r).drawn = s.drawn := by
  unfold takeOwed; split <;> simp

@[simp] theorem settle_keeps (s : State) :
    (settle s).pending = s.pending ∧ (settle s).sync = s.sync ∧ (settle s).loss = s.loss ∧
    (settle s).linkSettings = s.linkSettings ∧ (settle s).safety = s.safety ∧
    (settle s).safeStopAsserted = s.safeStopAsserted ∧ (settle s).receivers = s.receivers ∧
    (settle s).heldInReset = s.heldInReset ∧ (settle s).drawn = s.drawn := by
  unfold settle
  generalize reactions = xs
  induction xs generalizing s with
  | nil => simp
  | cons x xs ih =>
    simp only [List.foldl_cons, ih]
    simp

@[simp] theorem takeReaction_keeps (s : State) (r : Reaction) :
    (takeReaction s r).pending = s.pending ∧ (takeReaction s r).sync = s.sync ∧ (takeReaction s r).loss = s.loss ∧
    (takeReaction s r).linkSettings = s.linkSettings ∧ (takeReaction s r).safety = s.safety ∧
    (takeReaction s r).safeStopAsserted = s.safeStopAsserted ∧ (takeReaction s r).receivers = s.receivers ∧
    (takeReaction s r).heldInReset = s.heldInReset ∧ (takeReaction s r).drawn = s.drawn := by
  have h := settle_keeps s
  unfold settle at h
  cases r <;> simp [takeReaction, h]

@[simp] theorem takeEvent_keeps (s : State) (r : Reaction) (happens : Bool) :
    (takeEvent r happens s).pending = s.pending ∧ (takeEvent r happens s).sync = s.sync ∧
    (takeEvent r happens s).loss = s.loss ∧ (takeEvent r happens s).linkSettings = s.linkSettings ∧
    (takeEvent r happens s).safety = s.safety ∧ (takeEvent r happens s).safeStopAsserted = s.safeStopAsserted ∧
    (takeEvent r happens s).receivers = s.receivers ∧ (takeEvent r happens s).heldInReset = s.heldInReset ∧
    (takeEvent r happens s).drawn = s.drawn := by
  unfold takeEvent; split <;> simp

theorem takeReactions_keeps (s : State) (xs : List Reaction) :
    (xs.foldl takeReaction s).pending = s.pending ∧ (xs.foldl takeReaction s).sync = s.sync ∧
    (xs.foldl takeReaction s).loss = s.loss ∧ (xs.foldl takeReaction s).linkSettings = s.linkSettings ∧
    (xs.foldl takeReaction s).safety = s.safety ∧ (xs.foldl takeReaction s).safeStopAsserted = s.safeStopAsserted ∧
    (xs.foldl takeReaction s).receivers = s.receivers ∧ (xs.foldl takeReaction s).heldInReset = s.heldInReset ∧
    (xs.foldl takeReaction s).drawn = s.drawn := by
  induction xs generalizing s with
  | nil => simp
  | cons x xs ih =>
    simp only [List.foldl_cons, ih]
    simp

@[simp] theorem boundaryStep_keeps (s : State) (order left : List Reaction) :
    (boundaryStep order left s).pending = s.pending ∧ (boundaryStep order left s).sync = s.sync ∧
    (boundaryStep order left s).loss = s.loss ∧ (boundaryStep order left s).linkSettings = s.linkSettings ∧
    (boundaryStep order left s).safety = s.safety ∧
    (boundaryStep order left s).safeStopAsserted = s.safeStopAsserted ∧
    (boundaryStep order left s).receivers = s.receivers ∧ (boundaryStep order left s).heldInReset = s.heldInReset ∧
    (boundaryStep order left s).drawn = s.drawn := by
  unfold boundaryStep; dsimp only; split <;> simp [takeReactions_keeps]

@[simp] theorem countLineHold_keeps (s : State) :
    (countLineHold s).pending = s.pending ∧ (countLineHold s).boundary = s.boundary ∧
    (countLineHold s).queue = s.queue ∧ (countLineHold s).schedule = s.schedule ∧ (countLineHold s).holds = s.holds ∧
    (countLineHold s).axes = s.axes ∧ (countLineHold s).sync = s.sync ∧ (countLineHold s).directives = s.directives ∧
    (countLineHold s).loss = s.loss ∧ (countLineHold s).road = s.road ∧ (countLineHold s).links = s.links ∧
    (countLineHold s).linkSettings = s.linkSettings ∧ (countLineHold s).latches = s.latches ∧
    (countLineHold s).safety = s.safety ∧ (countLineHold s).safeStopAsserted = s.safeStopAsserted ∧
    (countLineHold s).record = s.record ∧ (countLineHold s).trace = s.trace ∧
    (countLineHold s).receivers = s.receivers ∧ (countLineHold s).heldInReset = s.heldInReset ∧
    (countLineHold s).drawn = s.drawn := by
  unfold countLineHold; split <;> (repeat' split) <;> simp

end Sys2Proof.Machine
end

