-- ==== Sys2Proof/Laws/Requests.lean ====
section
/-!
SUPPORT. Requests: what a taken and a refused message come to, and what each request leaves as it was.
-/
namespace Sys2Proof.Machine

/-! ## Taking a message -/

/-- A message on a port that is not ready is discarded. -/
theorem takeMessage_notReady (p : Port) (handled : State → State) (s : State) (h : portReady (settle s) p = false) :
    takeMessage p handled s = settle s := by
  simp [takeMessage, h]

theorem takeMessage_ready (p : Port) (handled : State → State) (s : State) (h : portReady (settle s) p = true) :
    takeMessage p handled s = handled (settle s) := by
  simp [takeMessage, h]

/-- A station request that is taken and permitted is handled whole and answered. -/
theorem takeStation_taken (src : Sender) (kind : Byte) (h : State → Served) (s : State)
    (ready : portReady (settle s) (portOf src) = true) (may : src = .supervisor ∨ observerMay kind = true) :
    takeStation src kind h s =
      answerStation (h (settle s)).state src ((h (settle s)).kind.getD kind) (h (settle s)).code (h (settle s)).body := by
  simp [takeStation, takeMessage_ready _ _ _ ready, serve, permitted, may, answerStation]

/-- An observer's request that it may not send is refused. -/
theorem takeStation_notPermitted (src : Sender) (kind : Byte) (h : State → Served) (s : State)
    (ready : portReady (settle s) (portOf src) = true) (who : src ≠ .supervisor) (may : observerMay kind = false) :
    takeStation src kind h s = answerStation (settle s) src kind .notPermitted .header := by
  simp [takeStation, takeMessage_ready _ _ _ ready, serve, permitted, who, may, answerStation, refuse]

theorem takeDrive_taken (n dest : Axis) (kind : Byte) (h : State → Served) (s : State)
    (ready : portReady (settle s) (.drive n) = true) :
    takeDrive n dest kind h s =
      answerDrive (h (settle s)).state n dest ((h (settle s)).kind.getD kind) (h (settle s)).code (h (settle s)).body := by
  simp [takeDrive, takeMessage_ready _ _ _ ready, serve, answerDrive]

/-! ## The state an outcome leaves -/

@[simp] theorem clockServed_state (s : State) (code : Code) : (clockServed s code).state = s := rfl
@[simp] theorem queueServed_state (s : State) (code : Code) (position : Nat) : (queueServed s code position).state = s := rfl
@[simp] theorem scheduleServed_state (s : State) (code : Code) : (scheduleServed s code).state = s := rfl
@[simp] theorem runSettingsServed_state (s : State) (code : Code) : (runSettingsServed s code).state = s := rfl
@[simp] theorem removedServed_state (s : State) (code : Code) (count : Nat) : (removedServed s code count).state = s := rfl
@[simp] theorem syncServed_state (s : State) (code : Code) : (syncServed s code).state = s := rfl
@[simp] theorem guardsServed_state (s : State) (code : Code) : (guardsServed s code).state = s := rfl
@[simp] theorem lossServed_state (s : State) (code : Code) : (lossServed s code).state = s := rfl
@[simp] theorem banksServed_state (s : State) (code : Code) : (banksServed s code).state = s := rfl
@[simp] theorem linksServed_state (s : State) (code : Code) : (linksServed s code).state = s := rfl
@[simp] theorem safetyServed_state (s : State) (code : Code) : (safetyServed s code).state = s := rfl
@[simp] theorem recordServed_state (s : State) (code : Code) (item : RecordItem) : (recordServed s code item).state = s := rfl
@[simp] theorem refuse_state (s : State) (code : Code) (body : Body) : (refuse s code body).state = s := rfl
@[simp] theorem heldServed_state (s : State) (src : Sender) (code : Code) : (heldServed s src code).state = s := rfl
@[simp] theorem axisSettingsServed_state (s : State) (code : Code) (n : Option Axis) :
    (axisSettingsServed s code n).state = s := rfl
@[simp] theorem coupleServed_state (s : State) (code : Code) (n : Option Axis) (o : Option DirectiveOutcome) :
    (coupleServed s code n o).state = s := rfl
@[simp] theorem latchServed_state (s : State) (n : Axis) (code : Code) : (latchServed s n code).state = s := rfl
@[simp] theorem readServed_state (p : Payload Unit) (s : State) (body : Body) : (readServed p s body).state = s := rfl
@[simp] theorem unknownServed_state (s : State) : (unknownServed s).state = s := rfl
@[simp] theorem helloRefused_state (s : State) (n : Axis) (code : Code) : (helloRefused s n code).state = s := rfl
@[simp] theorem welcomeServed_state (s : State) (n : Axis) : (welcomeServed s n).state = s := rfl
@[simp] theorem rejoinServed_state (s : State) (n : Axis) : (rejoinServed s n).state = s := rfl

/-! ## The requests -/

@[simp] theorem setClockRequest_keeps (s : State) (p : Payload Nat) :
    ((setClockRequest p s).state).pending = s.pending ∧ ((setClockRequest p s).state).boundary = s.boundary ∧
    ((setClockRequest p s).state).queue = s.queue ∧ ((setClockRequest p s).state).schedule = s.schedule ∧
    ((setClockRequest p s).state).holds = s.holds ∧ ((setClockRequest p s).state).axes = s.axes ∧
    ((setClockRequest p s).state).sync = s.sync ∧ ((setClockRequest p s).state).directives = s.directives ∧
    ((setClockRequest p s).state).loss = s.loss ∧ ((setClockRequest p s).state).road = s.road ∧
    ((setClockRequest p s).state).links = s.links ∧ ((setClockRequest p s).state).linkSettings = s.linkSettings ∧
    ((setClockRequest p s).state).latches = s.latches ∧ ((setClockRequest p s).state).safety = s.safety ∧
    ((setClockRequest p s).state).safeStopAsserted = s.safeStopAsserted ∧
    ((setClockRequest p s).state).record = s.record ∧ ((setClockRequest p s).state).trace = s.trace ∧
    ((setClockRequest p s).state).receivers = s.receivers ∧
    ((setClockRequest p s).state).heldInReset = s.heldInReset ∧ ((setClockRequest p s).state).drawn = s.drawn := by
  unfold setClockRequest; split <;> (repeat' split) <;> simp

@[simp] theorem clockStartRequest_keeps (s : State) (p : Payload Unit) :
    ((clockStartRequest p s).state).pending = s.pending ∧ ((clockStartRequest p s).state).boundary = s.boundary ∧
    ((clockStartRequest p s).state).queue = s.queue ∧ ((clockStartRequest p s).state).schedule = s.schedule ∧
    ((clockStartRequest p s).state).holds = s.holds ∧ ((clockStartRequest p s).state).axes = s.axes ∧
    ((clockStartRequest p s).state).sync = s.sync ∧ ((clockStartRequest p s).state).directives = s.directives ∧
    ((clockStartRequest p s).state).loss = s.loss ∧ ((clockStartRequest p s).state).road = s.road ∧
    ((clockStartRequest p s).state).links = s.links ∧ ((clockStartRequest p s).state).linkSettings = s.linkSettings ∧
    ((clockStartRequest p s).state).latches = s.latches ∧ ((clockStartRequest p s).state).safety = s.safety ∧
    ((clockStartRequest p s).state).safeStopAsserted = s.safeStopAsserted ∧
    ((clockStartRequest p s).state).record = s.record ∧ ((clockStartRequest p s).state).trace = s.trace ∧
    ((clockStartRequest p s).state).receivers = s.receivers ∧
    ((clockStartRequest p s).state).heldInReset = s.heldInReset ∧
    ((clockStartRequest p s).state).drawn = s.drawn := by
  unfold clockStartRequest; split <;> (repeat' split) <;> simp

@[simp] theorem clockHaltRequest_keeps (s : State) (p : Payload Unit) :
    ((clockHaltRequest p s).state).pending = s.pending ∧ ((clockHaltRequest p s).state).boundary = s.boundary ∧
    ((clockHaltRequest p s).state).queue = s.queue ∧ ((clockHaltRequest p s).state).schedule = s.schedule ∧
    ((clockHaltRequest p s).state).holds = s.holds ∧ ((clockHaltRequest p s).state).axes = s.axes ∧
    ((clockHaltRequest p s).state).sync = s.sync ∧ ((clockHaltRequest p s).state).directives = s.directives ∧
    ((clockHaltRequest p s).state).loss = s.loss ∧ ((clockHaltRequest p s).state).road = s.road ∧
    ((clockHaltRequest p s).state).links = s.links ∧ ((clockHaltRequest p s).state).linkSettings = s.linkSettings ∧
    ((clockHaltRequest p s).state).latches = s.latches ∧ ((clockHaltRequest p s).state).safety = s.safety ∧
    ((clockHaltRequest p s).state).safeStopAsserted = s.safeStopAsserted ∧
    ((clockHaltRequest p s).state).record = s.record ∧ ((clockHaltRequest p s).state).trace = s.trace ∧
    ((clockHaltRequest p s).state).receivers = s.receivers ∧
    ((clockHaltRequest p s).state).heldInReset = s.heldInReset ∧ ((clockHaltRequest p s).state).drawn = s.drawn := by
  unfold clockHaltRequest; split <;> (repeat' split) <;> simp

@[simp] theorem softReset_keeps (s : State) :
    (softReset s).pending = s.pending ∧ (softReset s).sync = s.sync ∧ (softReset s).loss = s.loss ∧
    (softReset s).linkSettings = s.linkSettings ∧ (softReset s).safety = s.safety ∧
    (softReset s).safeStopAsserted = s.safeStopAsserted ∧ (softReset s).receivers = s.receivers ∧
    (softReset s).heldInReset = s.heldInReset ∧ (softReset s).drawn = s.drawn := by
  simp [softReset]

@[simp] theorem resetRequest_keeps (s : State) (p : Payload Unit) :
    ((resetRequest p s).state).pending = s.pending ∧ ((resetRequest p s).state).sync = s.sync ∧
    ((resetRequest p s).state).loss = s.loss ∧ ((resetRequest p s).state).linkSettings = s.linkSettings ∧
    ((resetRequest p s).state).safety = s.safety ∧ ((resetRequest p s).state).safeStopAsserted = s.safeStopAsserted ∧
    ((resetRequest p s).state).receivers = s.receivers ∧ ((resetRequest p s).state).heldInReset = s.heldInReset ∧
    ((resetRequest p s).state).drawn = s.drawn := by
  unfold resetRequest; split <;> (repeat' split) <;> simp

@[simp] theorem acceptBlock_keeps (s : State) (segments : List Segment) (last : Trial) :
    (acceptBlock s segments last).pending = s.pending ∧ (acceptBlock s segments last).clock = s.clock ∧
    (acceptBlock s segments last).boundary = s.boundary ∧ (acceptBlock s segments last).schedule = s.schedule ∧
    (acceptBlock s segments last).holds = s.holds ∧ (acceptBlock s segments last).axes = s.axes ∧
    (acceptBlock s segments last).sync = s.sync ∧ (acceptBlock s segments last).directives = s.directives ∧
    (acceptBlock s segments last).loss = s.loss ∧ (acceptBlock s segments last).road = s.road ∧
    (acceptBlock s segments last).links = s.links ∧ (acceptBlock s segments last).linkSettings = s.linkSettings ∧
    (acceptBlock s segments last).latches = s.latches ∧ (acceptBlock s segments last).safety = s.safety ∧
    (acceptBlock s segments last).safeStopAsserted = s.safeStopAsserted ∧
    (acceptBlock s segments last).record = s.record ∧ (acceptBlock s segments last).trace = s.trace ∧
    (acceptBlock s segments last).receivers = s.receivers ∧
    (acceptBlock s segments last).heldInReset = s.heldInReset ∧ (acceptBlock s segments last).drawn = s.drawn := by
  simp [acceptBlock]

@[simp] theorem blockRequest_keeps (s : State) (records : Option (List RawRecord)) :
    ((blockRequest records s).state).pending = s.pending ∧ ((blockRequest records s).state).clock = s.clock ∧
    ((blockRequest records s).state).boundary = s.boundary ∧ ((blockRequest records s).state).schedule = s.schedule ∧
    ((blockRequest records s).state).holds = s.holds ∧ ((blockRequest records s).state).axes = s.axes ∧
    ((blockRequest records s).state).sync = s.sync ∧ ((blockRequest records s).state).directives = s.directives ∧
    ((blockRequest records s).state).loss = s.loss ∧ ((blockRequest records s).state).road = s.road ∧
    ((blockRequest records s).state).links = s.links ∧
    ((blockRequest records s).state).linkSettings = s.linkSettings ∧
    ((blockRequest records s).state).latches = s.latches ∧ ((blockRequest records s).state).safety = s.safety ∧
    ((blockRequest records s).state).safeStopAsserted = s.safeStopAsserted ∧
    ((blockRequest records s).state).record = s.record ∧ ((blockRequest records s).state).trace = s.trace ∧
    ((blockRequest records s).state).receivers = s.receivers ∧
    ((blockRequest records s).state).heldInReset = s.heldInReset ∧
    ((blockRequest records s).state).drawn = s.drawn := by
  unfold blockRequest; split <;> (repeat' split) <;> simp

@[simp] theorem appendRequest_keeps (s : State) (payload : List Byte) :
    ((appendRequest payload s).state).pending = s.pending ∧ ((appendRequest payload s).state).clock = s.clock ∧
    ((appendRequest payload s).state).boundary = s.boundary ∧
    ((appendRequest payload s).state).schedule = s.schedule ∧ ((appendRequest payload s).state).holds = s.holds ∧
    ((appendRequest payload s).state).axes = s.axes ∧ ((appendRequest payload s).state).sync = s.sync ∧
    ((appendRequest payload s).state).directives = s.directives ∧ ((appendRequest payload s).state).loss = s.loss ∧
    ((appendRequest payload s).state).road = s.road ∧ ((appendRequest payload s).state).links = s.links ∧
    ((appendRequest payload s).state).linkSettings = s.linkSettings ∧
    ((appendRequest payload s).state).latches = s.latches ∧ ((appendRequest payload s).state).safety = s.safety ∧
    ((appendRequest payload s).state).safeStopAsserted = s.safeStopAsserted ∧
    ((appendRequest payload s).state).record = s.record ∧ ((appendRequest payload s).state).trace = s.trace ∧
    ((appendRequest payload s).state).receivers = s.receivers ∧
    ((appendRequest payload s).state).heldInReset = s.heldInReset ∧
    ((appendRequest payload s).state).drawn = s.drawn := by
  simp [appendRequest]

@[simp] theorem loadBlockRequest_keeps (s : State) (payload : List Byte) :
    ((loadBlockRequest payload s).state).pending = s.pending ∧ ((loadBlockRequest payload s).state).clock = s.clock ∧
    ((loadBlockRequest payload s).state).boundary = s.boundary ∧
    ((loadBlockRequest payload s).state).schedule = s.schedule ∧
    ((loadBlockRequest payload s).state).holds = s.holds ∧ ((loadBlockRequest payload s).state).axes = s.axes ∧
    ((loadBlockRequest payload s).state).sync = s.sync ∧
    ((loadBlockRequest payload s).state).directives = s.directives ∧
    ((loadBlockRequest payload s).state).loss = s.loss ∧ ((loadBlockRequest payload s).state).road = s.road ∧
    ((loadBlockRequest payload s).state).links = s.links ∧
    ((loadBlockRequest payload s).state).linkSettings = s.linkSettings ∧
    ((loadBlockRequest payload s).state).latches = s.latches ∧
    ((loadBlockRequest payload s).state).safety = s.safety ∧
    ((loadBlockRequest payload s).state).safeStopAsserted = s.safeStopAsserted ∧
    ((loadBlockRequest payload s).state).record = s.record ∧ ((loadBlockRequest payload s).state).trace = s.trace ∧
    ((loadBlockRequest payload s).state).receivers = s.receivers ∧
    ((loadBlockRequest payload s).state).heldInReset = s.heldInReset ∧
    ((loadBlockRequest payload s).state).drawn = s.drawn := by
  simp [loadBlockRequest]

@[simp] theorem flushRequest_keeps (s : State) (p : Payload Unit) :
    ((flushRequest p s).state).pending = s.pending ∧ ((flushRequest p s).state).clock = s.clock ∧
    ((flushRequest p s).state).boundary = s.boundary ∧ ((flushRequest p s).state).schedule = s.schedule ∧
    ((flushRequest p s).state).holds = s.holds ∧ ((flushRequest p s).state).axes = s.axes ∧
    ((flushRequest p s).state).sync = s.sync ∧ ((flushRequest p s).state).directives = s.directives ∧
    ((flushRequest p s).state).loss = s.loss ∧ ((flushRequest p s).state).road = s.road ∧
    ((flushRequest p s).state).links = s.links ∧ ((flushRequest p s).state).linkSettings = s.linkSettings ∧
    ((flushRequest p s).state).latches = s.latches ∧ ((flushRequest p s).state).safety = s.safety ∧
    ((flushRequest p s).state).safeStopAsserted = s.safeStopAsserted ∧ ((flushRequest p s).state).record = s.record ∧
    ((flushRequest p s).state).trace = s.trace ∧ ((flushRequest p s).state).receivers = s.receivers ∧
    ((flushRequest p s).state).heldInReset = s.heldInReset ∧ ((flushRequest p s).state).drawn = s.drawn := by
  unfold flushRequest; split <;> simp

@[simp] theorem armRun_keeps (s : State) :
    (armRun s).pending = s.pending ∧ (armRun s).clock = s.clock ∧ (armRun s).boundary = s.boundary ∧
    (armRun s).queue = s.queue ∧ (armRun s).holds = s.holds ∧ (armRun s).axes = s.axes ∧ (armRun s).sync = s.sync ∧
    (armRun s).directives = s.directives ∧ (armRun s).loss = s.loss ∧ (armRun s).road = s.road ∧
    (armRun s).links = s.links ∧ (armRun s).linkSettings = s.linkSettings ∧ (armRun s).latches = s.latches ∧
    (armRun s).safety = s.safety ∧ (armRun s).safeStopAsserted = s.safeStopAsserted ∧
    (armRun s).receivers = s.receivers ∧ (armRun s).heldInReset = s.heldInReset ∧ (armRun s).drawn = s.drawn := by
  simp [armRun]

@[simp] theorem startRunRequest_keeps (s : State) (p : Payload Unit) :
    ((startRunRequest p s).state).pending = s.pending ∧ ((startRunRequest p s).state).clock = s.clock ∧
    ((startRunRequest p s).state).boundary = s.boundary ∧ ((startRunRequest p s).state).queue = s.queue ∧
    ((startRunRequest p s).state).holds = s.holds ∧ ((startRunRequest p s).state).axes = s.axes ∧
    ((startRunRequest p s).state).sync = s.sync ∧ ((startRunRequest p s).state).directives = s.directives ∧
    ((startRunRequest p s).state).loss = s.loss ∧ ((startRunRequest p s).state).road = s.road ∧
    ((startRunRequest p s).state).links = s.links ∧ ((startRunRequest p s).state).linkSettings = s.linkSettings ∧
    ((startRunRequest p s).state).latches = s.latches ∧ ((startRunRequest p s).state).safety = s.safety ∧
    ((startRunRequest p s).state).safeStopAsserted = s.safeStopAsserted ∧
    ((startRunRequest p s).state).receivers = s.receivers ∧
    ((startRunRequest p s).state).heldInReset = s.heldInReset ∧ ((startRunRequest p s).state).drawn = s.drawn := by
  unfold startRunRequest; split <;> (repeat' split) <;> simp

@[simp] theorem abortRunRequest_keeps (s : State) (p : Payload Unit) :
    ((abortRunRequest p s).state).pending = s.pending ∧ ((abortRunRequest p s).state).clock = s.clock ∧
    ((abortRunRequest p s).state).boundary = s.boundary ∧ ((abortRunRequest p s).state).queue = s.queue ∧
    ((abortRunRequest p s).state).holds = s.holds ∧ ((abortRunRequest p s).state).axes = s.axes ∧
    ((abortRunRequest p s).state).sync = s.sync ∧ ((abortRunRequest p s).state).directives = s.directives ∧
    ((abortRunRequest p s).state).loss = s.loss ∧ ((abortRunRequest p s).state).links = s.links ∧
    ((abortRunRequest p s).state).linkSettings = s.linkSettings ∧ ((abortRunRequest p s).state).latches = s.latches ∧
    ((abortRunRequest p s).state).safety = s.safety ∧
    ((abortRunRequest p s).state).safeStopAsserted = s.safeStopAsserted ∧
    ((abortRunRequest p s).state).trace = s.trace ∧ ((abortRunRequest p s).state).receivers = s.receivers ∧
    ((abortRunRequest p s).state).heldInReset = s.heldInReset ∧ ((abortRunRequest p s).state).drawn = s.drawn := by
  unfold abortRunRequest; split <;> (repeat' split) <;> simp

@[simp] theorem closeRunRequest_keeps (s : State) (p : Payload Unit) :
    ((closeRunRequest p s).state).pending = s.pending ∧ ((closeRunRequest p s).state).clock = s.clock ∧
    ((closeRunRequest p s).state).boundary = s.boundary ∧ ((closeRunRequest p s).state).holds = s.holds ∧
    ((closeRunRequest p s).state).axes = s.axes ∧ ((closeRunRequest p s).state).sync = s.sync ∧
    ((closeRunRequest p s).state).directives = s.directives ∧ ((closeRunRequest p s).state).loss = s.loss ∧
    ((closeRunRequest p s).state).road = s.road ∧ ((closeRunRequest p s).state).links = s.links ∧
    ((closeRunRequest p s).state).linkSettings = s.linkSettings ∧ ((closeRunRequest p s).state).latches = s.latches ∧
    ((closeRunRequest p s).state).safety = s.safety ∧
    ((closeRunRequest p s).state).safeStopAsserted = s.safeStopAsserted ∧
    ((closeRunRequest p s).state).trace = s.trace ∧ ((closeRunRequest p s).state).receivers = s.receivers ∧
    ((closeRunRequest p s).state).heldInReset = s.heldInReset ∧ ((closeRunRequest p s).state).drawn = s.drawn := by
  unfold closeRunRequest; split <;> (repeat' split) <;> simp

@[simp] theorem applyRunFields_keeps (s : State) (r : RunFields) (policy : FaultPolicy) :
    (applyRunFields s r policy).pending = s.pending ∧ (applyRunFields s r policy).clock = s.clock ∧
    (applyRunFields s r policy).boundary = s.boundary ∧ (applyRunFields s r policy).holds = s.holds ∧
    (applyRunFields s r policy).axes = s.axes ∧ (applyRunFields s r policy).sync = s.sync ∧
    (applyRunFields s r policy).directives = s.directives ∧ (applyRunFields s r policy).loss = s.loss ∧
    (applyRunFields s r policy).road = s.road ∧ (applyRunFields s r policy).links = s.links ∧
    (applyRunFields s r policy).linkSettings = s.linkSettings ∧ (applyRunFields s r policy).latches = s.latches ∧
    (applyRunFields s r policy).safety = s.safety ∧
    (applyRunFields s r policy).safeStopAsserted = s.safeStopAsserted ∧
    (applyRunFields s r policy).record = s.record ∧ (applyRunFields s r policy).receivers = s.receivers ∧
    (applyRunFields s r policy).heldInReset = s.heldInReset ∧ (applyRunFields s r policy).drawn = s.drawn := by
  simp [applyRunFields]

@[simp] theorem setRunRequest_keeps (s : State) (p : Payload RunFields) :
    ((setRunRequest p s).state).pending = s.pending ∧ ((setRunRequest p s).state).clock = s.clock ∧
    ((setRunRequest p s).state).boundary = s.boundary ∧ ((setRunRequest p s).state).holds = s.holds ∧
    ((setRunRequest p s).state).axes = s.axes ∧ ((setRunRequest p s).state).sync = s.sync ∧
    ((setRunRequest p s).state).directives = s.directives ∧ ((setRunRequest p s).state).loss = s.loss ∧
    ((setRunRequest p s).state).road = s.road ∧ ((setRunRequest p s).state).links = s.links ∧
    ((setRunRequest p s).state).linkSettings = s.linkSettings ∧ ((setRunRequest p s).state).latches = s.latches ∧
    ((setRunRequest p s).state).safety = s.safety ∧
    ((setRunRequest p s).state).safeStopAsserted = s.safeStopAsserted ∧
    ((setRunRequest p s).state).record = s.record ∧ ((setRunRequest p s).state).receivers = s.receivers ∧
    ((setRunRequest p s).state).heldInReset = s.heldInReset ∧ ((setRunRequest p s).state).drawn = s.drawn := by
  unfold setRunRequest; split <;> (repeat' split) <;> simp

@[simp] theorem holdRequest_keeps (s : State) (src : Sender) (p : Payload HoldFields) :
    ((holdRequest src p s).state).pending = s.pending ∧ ((holdRequest src p s).state).clock = s.clock ∧
    ((holdRequest src p s).state).boundary = s.boundary ∧ ((holdRequest src p s).state).queue = s.queue ∧
    ((holdRequest src p s).state).schedule = s.schedule ∧ ((holdRequest src p s).state).axes = s.axes ∧
    ((holdRequest src p s).state).sync = s.sync ∧ ((holdRequest src p s).state).directives = s.directives ∧
    ((holdRequest src p s).state).loss = s.loss ∧ ((holdRequest src p s).state).road = s.road ∧
    ((holdRequest src p s).state).links = s.links ∧ ((holdRequest src p s).state).linkSettings = s.linkSettings ∧
    ((holdRequest src p s).state).latches = s.latches ∧ ((holdRequest src p s).state).safety = s.safety ∧
    ((holdRequest src p s).state).safeStopAsserted = s.safeStopAsserted ∧
    ((holdRequest src p s).state).record = s.record ∧ ((holdRequest src p s).state).trace = s.trace ∧
    ((holdRequest src p s).state).receivers = s.receivers ∧
    ((holdRequest src p s).state).heldInReset = s.heldInReset ∧ ((holdRequest src p s).state).drawn = s.drawn := by
  unfold holdRequest; split <;> (repeat' split) <;> simp

@[simp] theorem removeExternal_keeps (s : State) (who : Sender) :
    ((removeExternal s who).state).pending = s.pending ∧ ((removeExternal s who).state).clock = s.clock ∧
    ((removeExternal s who).state).boundary = s.boundary ∧ ((removeExternal s who).state).queue = s.queue ∧
    ((removeExternal s who).state).schedule = s.schedule ∧ ((removeExternal s who).state).axes = s.axes ∧
    ((removeExternal s who).state).sync = s.sync ∧ ((removeExternal s who).state).directives = s.directives ∧
    ((removeExternal s who).state).loss = s.loss ∧ ((removeExternal s who).state).road = s.road ∧
    ((removeExternal s who).state).links = s.links ∧ ((removeExternal s who).state).linkSettings = s.linkSettings ∧
    ((removeExternal s who).state).latches = s.latches ∧ ((removeExternal s who).state).safety = s.safety ∧
    ((removeExternal s who).state).safeStopAsserted = s.safeStopAsserted ∧
    ((removeExternal s who).state).record = s.record ∧ ((removeExternal s who).state).trace = s.trace ∧
    ((removeExternal s who).state).receivers = s.receivers ∧
    ((removeExternal s who).state).heldInReset = s.heldInReset ∧ ((removeExternal s who).state).drawn = s.drawn := by
  unfold removeExternal; split <;> simp

@[simp] theorem releaseRequest_keeps (s : State) (src : Sender) (p : Payload Unit) :
    ((releaseRequest src p s).state).pending = s.pending ∧ ((releaseRequest src p s).state).clock = s.clock ∧
    ((releaseRequest src p s).state).boundary = s.boundary ∧ ((releaseRequest src p s).state).queue = s.queue ∧
    ((releaseRequest src p s).state).schedule = s.schedule ∧ ((releaseRequest src p s).state).axes = s.axes ∧
    ((releaseRequest src p s).state).sync = s.sync ∧ ((releaseRequest src p s).state).directives = s.directives ∧
    ((releaseRequest src p s).state).loss = s.loss ∧ ((releaseRequest src p s).state).road = s.road ∧
    ((releaseRequest src p s).state).links = s.links ∧
    ((releaseRequest src p s).state).linkSettings = s.linkSettings ∧
    ((releaseRequest src p s).state).latches = s.latches ∧ ((releaseRequest src p s).state).safety = s.safety ∧
    ((releaseRequest src p s).state).safeStopAsserted = s.safeStopAsserted ∧
    ((releaseRequest src p s).state).record = s.record ∧ ((releaseRequest src p s).state).trace = s.trace ∧
    ((releaseRequest src p s).state).receivers = s.receivers ∧
    ((releaseRequest src p s).state).heldInReset = s.heldInReset ∧
    ((releaseRequest src p s).state).drawn = s.drawn := by
  unfold releaseRequest; split <;> simp

@[simp] theorem releaseHolderRequest_keeps (s : State) (p : Payload HolderTarget) :
    ((releaseHolderRequest p s).state).pending = s.pending ∧ ((releaseHolderRequest p s).state).clock = s.clock ∧
    ((releaseHolderRequest p s).state).boundary = s.boundary ∧ ((releaseHolderRequest p s).state).queue = s.queue ∧
    ((releaseHolderRequest p s).state).schedule = s.schedule ∧ ((releaseHolderRequest p s).state).axes = s.axes ∧
    ((releaseHolderRequest p s).state).sync = s.sync ∧ ((releaseHolderRequest p s).state).directives = s.directives ∧
    ((releaseHolderRequest p s).state).loss = s.loss ∧ ((releaseHolderRequest p s).state).road = s.road ∧
    ((releaseHolderRequest p s).state).links = s.links ∧
    ((releaseHolderRequest p s).state).linkSettings = s.linkSettings ∧
    ((releaseHolderRequest p s).state).latches = s.latches ∧ ((releaseHolderRequest p s).state).safety = s.safety ∧
    ((releaseHolderRequest p s).state).safeStopAsserted = s.safeStopAsserted ∧
    ((releaseHolderRequest p s).state).record = s.record ∧ ((releaseHolderRequest p s).state).trace = s.trace ∧
    ((releaseHolderRequest p s).state).receivers = s.receivers ∧
    ((releaseHolderRequest p s).state).heldInReset = s.heldInReset ∧
    ((releaseHolderRequest p s).state).drawn = s.drawn := by
  unfold releaseHolderRequest; split <;> (repeat' split) <;> simp [clearExternal]

@[simp] theorem applyAxis_keeps (s : State) (n : Axis) (mode : AxisMode) (forceLimit rollerMass : Int) :
    (applyAxis s n mode forceLimit rollerMass).pending = s.pending ∧
    (applyAxis s n mode forceLimit rollerMass).clock = s.clock ∧
    (applyAxis s n mode forceLimit rollerMass).boundary = s.boundary ∧
    (applyAxis s n mode forceLimit rollerMass).queue = s.queue ∧
    (applyAxis s n mode forceLimit rollerMass).schedule = s.schedule ∧
    (applyAxis s n mode forceLimit rollerMass).holds = s.holds ∧
    (applyAxis s n mode forceLimit rollerMass).sync = s.sync ∧
    (applyAxis s n mode forceLimit rollerMass).loss = s.loss ∧
    (applyAxis s n mode forceLimit rollerMass).road = s.road ∧
    (applyAxis s n mode forceLimit rollerMass).linkSettings = s.linkSettings ∧
    (applyAxis s n mode forceLimit rollerMass).latches = s.latches ∧
    (applyAxis s n mode forceLimit rollerMass).safety = s.safety ∧
    (applyAxis s n mode forceLimit rollerMass).safeStopAsserted = s.safeStopAsserted ∧
    (applyAxis s n mode forceLimit rollerMass).trace = s.trace ∧
    (applyAxis s n mode forceLimit rollerMass).receivers = s.receivers ∧
    (applyAxis s n mode forceLimit rollerMass).heldInReset = s.heldInReset ∧
    (applyAxis s n mode forceLimit rollerMass).drawn = s.drawn := by
  unfold applyAxis; dsimp only; split <;> simp

@[simp] theorem setAxisRequest_keeps (s : State) (p : Payload AxisFields) :
    ((setAxisRequest p s).state).pending = s.pending ∧ ((setAxisRequest p s).state).clock = s.clock ∧
    ((setAxisRequest p s).state).boundary = s.boundary ∧ ((setAxisRequest p s).state).queue = s.queue ∧
    ((setAxisRequest p s).state).schedule = s.schedule ∧ ((setAxisRequest p s).state).holds = s.holds ∧
    ((setAxisRequest p s).state).sync = s.sync ∧ ((setAxisRequest p s).state).loss = s.loss ∧
    ((setAxisRequest p s).state).road = s.road ∧ ((setAxisRequest p s).state).linkSettings = s.linkSettings ∧
    ((setAxisRequest p s).state).latches = s.latches ∧ ((setAxisRequest p s).state).safety = s.safety ∧
    ((setAxisRequest p s).state).safeStopAsserted = s.safeStopAsserted ∧
    ((setAxisRequest p s).state).trace = s.trace ∧ ((setAxisRequest p s).state).receivers = s.receivers ∧
    ((setAxisRequest p s).state).heldInReset = s.heldInReset ∧ ((setAxisRequest p s).state).drawn = s.drawn := by
  unfold setAxisRequest; split <;> (repeat' split) <;> simp

@[simp] theorem setSyncRequest_keeps (s : State) (p : Payload SyncSettings) :
    ((setSyncRequest p s).state).pending = s.pending ∧ ((setSyncRequest p s).state).clock = s.clock ∧
    ((setSyncRequest p s).state).boundary = s.boundary ∧ ((setSyncRequest p s).state).queue = s.queue ∧
    ((setSyncRequest p s).state).schedule = s.schedule ∧ ((setSyncRequest p s).state).holds = s.holds ∧
    ((setSyncRequest p s).state).axes = s.axes ∧ ((setSyncRequest p s).state).directives = s.directives ∧
    ((setSyncRequest p s).state).loss = s.loss ∧ ((setSyncRequest p s).state).road = s.road ∧
    ((setSyncRequest p s).state).links = s.links ∧ ((setSyncRequest p s).state).linkSettings = s.linkSettings ∧
    ((setSyncRequest p s).state).latches = s.latches ∧ ((setSyncRequest p s).state).safety = s.safety ∧
    ((setSyncRequest p s).state).safeStopAsserted = s.safeStopAsserted ∧
    ((setSyncRequest p s).state).record = s.record ∧ ((setSyncRequest p s).state).trace = s.trace ∧
    ((setSyncRequest p s).state).receivers = s.receivers ∧ ((setSyncRequest p s).state).heldInReset = s.heldInReset ∧
    ((setSyncRequest p s).state).drawn = s.drawn := by
  unfold setSyncRequest; split <;> (repeat' split) <;> simp

@[simp] theorem readAxisRequest_state (s : State) (p : Payload Nat) : (readAxisRequest p s).state = s := by
  unfold readAxisRequest; split <;> (repeat' split) <;> simp

@[simp] theorem coupleRequest_keeps (s : State) (p : Payload CoupleFields) :
    ((coupleRequest p s).state).pending = s.pending ∧ ((coupleRequest p s).state).clock = s.clock ∧
    ((coupleRequest p s).state).boundary = s.boundary ∧ ((coupleRequest p s).state).queue = s.queue ∧
    ((coupleRequest p s).state).schedule = s.schedule ∧ ((coupleRequest p s).state).holds = s.holds ∧
    ((coupleRequest p s).state).axes = s.axes ∧ ((coupleRequest p s).state).sync = s.sync ∧
    ((coupleRequest p s).state).loss = s.loss ∧ ((coupleRequest p s).state).road = s.road ∧
    ((coupleRequest p s).state).links = s.links ∧ ((coupleRequest p s).state).linkSettings = s.linkSettings ∧
    ((coupleRequest p s).state).latches = s.latches ∧ ((coupleRequest p s).state).safety = s.safety ∧
    ((coupleRequest p s).state).safeStopAsserted = s.safeStopAsserted ∧
    ((coupleRequest p s).state).record = s.record ∧ ((coupleRequest p s).state).trace = s.trace ∧
    ((coupleRequest p s).state).receivers = s.receivers ∧ ((coupleRequest p s).state).heldInReset = s.heldInReset ∧
    ((coupleRequest p s).state).drawn = s.drawn := by
  unfold coupleRequest; split <;> (repeat' split) <;> simp

@[simp] theorem setGuardsRequest_keeps (s : State) (p : Payload GuardSettings) :
    ((setGuardsRequest p s).state).pending = s.pending ∧ ((setGuardsRequest p s).state).clock = s.clock ∧
    ((setGuardsRequest p s).state).boundary = s.boundary ∧ ((setGuardsRequest p s).state).queue = s.queue ∧
    ((setGuardsRequest p s).state).schedule = s.schedule ∧ ((setGuardsRequest p s).state).holds = s.holds ∧
    ((setGuardsRequest p s).state).axes = s.axes ∧ ((setGuardsRequest p s).state).sync = s.sync ∧
    ((setGuardsRequest p s).state).loss = s.loss ∧ ((setGuardsRequest p s).state).road = s.road ∧
    ((setGuardsRequest p s).state).links = s.links ∧ ((setGuardsRequest p s).state).linkSettings = s.linkSettings ∧
    ((setGuardsRequest p s).state).latches = s.latches ∧ ((setGuardsRequest p s).state).safety = s.safety ∧
    ((setGuardsRequest p s).state).safeStopAsserted = s.safeStopAsserted ∧
    ((setGuardsRequest p s).state).record = s.record ∧ ((setGuardsRequest p s).state).trace = s.trace ∧
    ((setGuardsRequest p s).state).receivers = s.receivers ∧
    ((setGuardsRequest p s).state).heldInReset = s.heldInReset ∧ ((setGuardsRequest p s).state).drawn = s.drawn := by
  unfold setGuardsRequest; split <;> (repeat' split) <;> simp

@[simp] theorem setBandsRequest_keeps (s : State) (p : Payload BandSettings) :
    ((setBandsRequest p s).state).pending = s.pending ∧ ((setBandsRequest p s).state).clock = s.clock ∧
    ((setBandsRequest p s).state).boundary = s.boundary ∧ ((setBandsRequest p s).state).queue = s.queue ∧
    ((setBandsRequest p s).state).schedule = s.schedule ∧ ((setBandsRequest p s).state).holds = s.holds ∧
    ((setBandsRequest p s).state).axes = s.axes ∧ ((setBandsRequest p s).state).sync = s.sync ∧
    ((setBandsRequest p s).state).directives = s.directives ∧ ((setBandsRequest p s).state).road = s.road ∧
    ((setBandsRequest p s).state).links = s.links ∧ ((setBandsRequest p s).state).linkSettings = s.linkSettings ∧
    ((setBandsRequest p s).state).latches = s.latches ∧ ((setBandsRequest p s).state).safety = s.safety ∧
    ((setBandsRequest p s).state).safeStopAsserted = s.safeStopAsserted ∧
    ((setBandsRequest p s).state).record = s.record ∧ ((setBandsRequest p s).state).trace = s.trace ∧
    ((setBandsRequest p s).state).receivers = s.receivers ∧
    ((setBandsRequest p s).state).heldInReset = s.heldInReset ∧ ((setBandsRequest p s).state).drawn = s.drawn := by
  unfold setBandsRequest; split <;> (repeat' split) <;> simp

@[simp] theorem setLossRequest_keeps (s : State) (p : Payload (List LossItem)) :
    ((setLossRequest p s).state).pending = s.pending ∧ ((setLossRequest p s).state).clock = s.clock ∧
    ((setLossRequest p s).state).boundary = s.boundary ∧ ((setLossRequest p s).state).queue = s.queue ∧
    ((setLossRequest p s).state).schedule = s.schedule ∧ ((setLossRequest p s).state).holds = s.holds ∧
    ((setLossRequest p s).state).axes = s.axes ∧ ((setLossRequest p s).state).sync = s.sync ∧
    ((setLossRequest p s).state).directives = s.directives ∧ ((setLossRequest p s).state).road = s.road ∧
    ((setLossRequest p s).state).links = s.links ∧ ((setLossRequest p s).state).linkSettings = s.linkSettings ∧
    ((setLossRequest p s).state).latches = s.latches ∧ ((setLossRequest p s).state).safety = s.safety ∧
    ((setLossRequest p s).state).safeStopAsserted = s.safeStopAsserted ∧
    ((setLossRequest p s).state).record = s.record ∧ ((setLossRequest p s).state).trace = s.trace ∧
    ((setLossRequest p s).state).receivers = s.receivers ∧ ((setLossRequest p s).state).heldInReset = s.heldInReset ∧
    ((setLossRequest p s).state).drawn = s.drawn := by
  unfold setLossRequest; split <;> (repeat' split) <;> simp

@[simp] theorem loadBankRequest_keeps (s : State) (p : Payload BankFields) :
    ((loadBankRequest p s).state).pending = s.pending ∧ ((loadBankRequest p s).state).clock = s.clock ∧
    ((loadBankRequest p s).state).boundary = s.boundary ∧ ((loadBankRequest p s).state).queue = s.queue ∧
    ((loadBankRequest p s).state).schedule = s.schedule ∧ ((loadBankRequest p s).state).holds = s.holds ∧
    ((loadBankRequest p s).state).axes = s.axes ∧ ((loadBankRequest p s).state).sync = s.sync ∧
    ((loadBankRequest p s).state).directives = s.directives ∧ ((loadBankRequest p s).state).loss = s.loss ∧
    ((loadBankRequest p s).state).links = s.links ∧ ((loadBankRequest p s).state).linkSettings = s.linkSettings ∧
    ((loadBankRequest p s).state).latches = s.latches ∧ ((loadBankRequest p s).state).safety = s.safety ∧
    ((loadBankRequest p s).state).safeStopAsserted = s.safeStopAsserted ∧
    ((loadBankRequest p s).state).record = s.record ∧ ((loadBankRequest p s).state).trace = s.trace ∧
    ((loadBankRequest p s).state).receivers = s.receivers ∧
    ((loadBankRequest p s).state).heldInReset = s.heldInReset ∧ ((loadBankRequest p s).state).drawn = s.drawn := by
  unfold loadBankRequest; split <;> (repeat' split) <;> simp

@[simp] theorem selectNow_keeps (s : State) (name : BankName) :
    ((selectNow s name).state).pending = s.pending ∧ ((selectNow s name).state).clock = s.clock ∧
    ((selectNow s name).state).boundary = s.boundary ∧ ((selectNow s name).state).queue = s.queue ∧
    ((selectNow s name).state).schedule = s.schedule ∧ ((selectNow s name).state).holds = s.holds ∧
    ((selectNow s name).state).axes = s.axes ∧ ((selectNow s name).state).sync = s.sync ∧
    ((selectNow s name).state).directives = s.directives ∧ ((selectNow s name).state).loss = s.loss ∧
    ((selectNow s name).state).links = s.links ∧ ((selectNow s name).state).linkSettings = s.linkSettings ∧
    ((selectNow s name).state).latches = s.latches ∧ ((selectNow s name).state).safety = s.safety ∧
    ((selectNow s name).state).safeStopAsserted = s.safeStopAsserted ∧ ((selectNow s name).state).record = s.record ∧
    ((selectNow s name).state).trace = s.trace ∧ ((selectNow s name).state).receivers = s.receivers ∧
    ((selectNow s name).state).heldInReset = s.heldInReset ∧ ((selectNow s name).state).drawn = s.drawn := by
  unfold selectNow; split <;> simp

@[simp] theorem selectLater_keeps (s : State) (name : BankName) :
    ((selectLater s name).state).pending = s.pending ∧ ((selectLater s name).state).clock = s.clock ∧
    ((selectLater s name).state).boundary = s.boundary ∧ ((selectLater s name).state).queue = s.queue ∧
    ((selectLater s name).state).schedule = s.schedule ∧ ((selectLater s name).state).holds = s.holds ∧
    ((selectLater s name).state).axes = s.axes ∧ ((selectLater s name).state).sync = s.sync ∧
    ((selectLater s name).state).directives = s.directives ∧ ((selectLater s name).state).loss = s.loss ∧
    ((selectLater s name).state).links = s.links ∧ ((selectLater s name).state).linkSettings = s.linkSettings ∧
    ((selectLater s name).state).latches = s.latches ∧ ((selectLater s name).state).safety = s.safety ∧
    ((selectLater s name).state).safeStopAsserted = s.safeStopAsserted ∧
    ((selectLater s name).state).record = s.record ∧ ((selectLater s name).state).trace = s.trace ∧
    ((selectLater s name).state).receivers = s.receivers ∧ ((selectLater s name).state).heldInReset = s.heldInReset ∧
    ((selectLater s name).state).drawn = s.drawn := by
  simp [selectLater]

@[simp] theorem selectBankRequest_keeps (s : State) (p : Payload (Option BankName)) :
    ((selectBankRequest p s).state).pending = s.pending ∧ ((selectBankRequest p s).state).clock = s.clock ∧
    ((selectBankRequest p s).state).boundary = s.boundary ∧ ((selectBankRequest p s).state).queue = s.queue ∧
    ((selectBankRequest p s).state).schedule = s.schedule ∧ ((selectBankRequest p s).state).holds = s.holds ∧
    ((selectBankRequest p s).state).axes = s.axes ∧ ((selectBankRequest p s).state).sync = s.sync ∧
    ((selectBankRequest p s).state).directives = s.directives ∧ ((selectBankRequest p s).state).loss = s.loss ∧
    ((selectBankRequest p s).state).links = s.links ∧ ((selectBankRequest p s).state).linkSettings = s.linkSettings ∧
    ((selectBankRequest p s).state).latches = s.latches ∧ ((selectBankRequest p s).state).safety = s.safety ∧
    ((selectBankRequest p s).state).safeStopAsserted = s.safeStopAsserted ∧
    ((selectBankRequest p s).state).record = s.record ∧ ((selectBankRequest p s).state).trace = s.trace ∧
    ((selectBankRequest p s).state).receivers = s.receivers ∧
    ((selectBankRequest p s).state).heldInReset = s.heldInReset ∧
    ((selectBankRequest p s).state).drawn = s.drawn := by
  unfold selectBankRequest; split <;> (repeat' split) <;> simp

@[simp] theorem setLinksRequest_keeps (s : State) (p : Payload LinkSettings) :
    ((setLinksRequest p s).state).pending = s.pending ∧ ((setLinksRequest p s).state).clock = s.clock ∧
    ((setLinksRequest p s).state).boundary = s.boundary ∧ ((setLinksRequest p s).state).queue = s.queue ∧
    ((setLinksRequest p s).state).schedule = s.schedule ∧ ((setLinksRequest p s).state).holds = s.holds ∧
    ((setLinksRequest p s).state).axes = s.axes ∧ ((setLinksRequest p s).state).sync = s.sync ∧
    ((setLinksRequest p s).state).directives = s.directives ∧ ((setLinksRequest p s).state).loss = s.loss ∧
    ((setLinksRequest p s).state).road = s.road ∧ ((setLinksRequest p s).state).links = s.links ∧
    ((setLinksRequest p s).state).latches = s.latches ∧ ((setLinksRequest p s).state).safety = s.safety ∧
    ((setLinksRequest p s).state).safeStopAsserted = s.safeStopAsserted ∧
    ((setLinksRequest p s).state).record = s.record ∧ ((setLinksRequest p s).state).trace = s.trace ∧
    ((setLinksRequest p s).state).receivers = s.receivers ∧
    ((setLinksRequest p s).state).heldInReset = s.heldInReset ∧ ((setLinksRequest p s).state).drawn = s.drawn := by
  unfold setLinksRequest; split <;> (repeat' split) <;> simp

@[simp] theorem armLatch_keeps (s : State) (n : Axis) :
    (armLatch s n).pending = s.pending ∧ (armLatch s n).clock = s.clock ∧ (armLatch s n).boundary = s.boundary ∧
    (armLatch s n).queue = s.queue ∧ (armLatch s n).schedule = s.schedule ∧ (armLatch s n).holds = s.holds ∧
    (armLatch s n).axes = s.axes ∧ (armLatch s n).sync = s.sync ∧ (armLatch s n).directives = s.directives ∧
    (armLatch s n).loss = s.loss ∧ (armLatch s n).road = s.road ∧ (armLatch s n).links = s.links ∧
    (armLatch s n).linkSettings = s.linkSettings ∧ (armLatch s n).safety = s.safety ∧
    (armLatch s n).safeStopAsserted = s.safeStopAsserted ∧ (armLatch s n).record = s.record ∧
    (armLatch s n).trace = s.trace ∧ (armLatch s n).receivers = s.receivers ∧
    (armLatch s n).heldInReset = s.heldInReset ∧ (armLatch s n).drawn = s.drawn := by
  unfold armLatch; split <;> simp

@[simp] theorem readFaultRequest_keeps (s : State) (p : Payload Nat) :
    ((readFaultRequest p s).state).pending = s.pending ∧ ((readFaultRequest p s).state).clock = s.clock ∧
    ((readFaultRequest p s).state).boundary = s.boundary ∧ ((readFaultRequest p s).state).queue = s.queue ∧
    ((readFaultRequest p s).state).schedule = s.schedule ∧ ((readFaultRequest p s).state).holds = s.holds ∧
    ((readFaultRequest p s).state).axes = s.axes ∧ ((readFaultRequest p s).state).sync = s.sync ∧
    ((readFaultRequest p s).state).directives = s.directives ∧ ((readFaultRequest p s).state).loss = s.loss ∧
    ((readFaultRequest p s).state).road = s.road ∧ ((readFaultRequest p s).state).links = s.links ∧
    ((readFaultRequest p s).state).linkSettings = s.linkSettings ∧ ((readFaultRequest p s).state).safety = s.safety ∧
    ((readFaultRequest p s).state).safeStopAsserted = s.safeStopAsserted ∧
    ((readFaultRequest p s).state).record = s.record ∧ ((readFaultRequest p s).state).trace = s.trace ∧
    ((readFaultRequest p s).state).receivers = s.receivers ∧
    ((readFaultRequest p s).state).heldInReset = s.heldInReset ∧ ((readFaultRequest p s).state).drawn = s.drawn := by
  unfold readFaultRequest; split <;> (repeat' split) <;> simp

@[simp] theorem clearFault_keeps (s : State) (n : Axis) :
    (clearFault s n).pending = s.pending ∧ (clearFault s n).clock = s.clock ∧ (clearFault s n).boundary = s.boundary ∧
    (clearFault s n).queue = s.queue ∧ (clearFault s n).schedule = s.schedule ∧ (clearFault s n).sync = s.sync ∧
    (clearFault s n).directives = s.directives ∧ (clearFault s n).loss = s.loss ∧ (clearFault s n).road = s.road ∧
    (clearFault s n).links = s.links ∧ (clearFault s n).linkSettings = s.linkSettings ∧
    (clearFault s n).safety = s.safety ∧ (clearFault s n).safeStopAsserted = s.safeStopAsserted ∧
    (clearFault s n).record = s.record ∧ (clearFault s n).trace = s.trace ∧ (clearFault s n).receivers = s.receivers ∧
    (clearFault s n).heldInReset = s.heldInReset ∧ (clearFault s n).drawn = s.drawn := by
  simp [clearFault]

@[simp] theorem clearFaultRequest_keeps (s : State) (p : Payload Nat) :
    ((clearFaultRequest p s).state).pending = s.pending ∧ ((clearFaultRequest p s).state).clock = s.clock ∧
    ((clearFaultRequest p s).state).boundary = s.boundary ∧ ((clearFaultRequest p s).state).queue = s.queue ∧
    ((clearFaultRequest p s).state).schedule = s.schedule ∧ ((clearFaultRequest p s).state).sync = s.sync ∧
    ((clearFaultRequest p s).state).directives = s.directives ∧ ((clearFaultRequest p s).state).loss = s.loss ∧
    ((clearFaultRequest p s).state).road = s.road ∧ ((clearFaultRequest p s).state).links = s.links ∧
    ((clearFaultRequest p s).state).linkSettings = s.linkSettings ∧
    ((clearFaultRequest p s).state).safety = s.safety ∧
    ((clearFaultRequest p s).state).safeStopAsserted = s.safeStopAsserted ∧
    ((clearFaultRequest p s).state).record = s.record ∧ ((clearFaultRequest p s).state).trace = s.trace ∧
    ((clearFaultRequest p s).state).receivers = s.receivers ∧
    ((clearFaultRequest p s).state).heldInReset = s.heldInReset ∧
    ((clearFaultRequest p s).state).drawn = s.drawn := by
  unfold clearFaultRequest; split <;> (repeat' split) <;> simp

@[simp] theorem ackSafeStopRequest_keeps (s : State) (p : Payload Unit) :
    ((ackSafeStopRequest p s).state).pending = s.pending ∧ ((ackSafeStopRequest p s).state).clock = s.clock ∧
    ((ackSafeStopRequest p s).state).boundary = s.boundary ∧ ((ackSafeStopRequest p s).state).queue = s.queue ∧
    ((ackSafeStopRequest p s).state).schedule = s.schedule ∧ ((ackSafeStopRequest p s).state).holds = s.holds ∧
    ((ackSafeStopRequest p s).state).axes = s.axes ∧ ((ackSafeStopRequest p s).state).sync = s.sync ∧
    ((ackSafeStopRequest p s).state).directives = s.directives ∧ ((ackSafeStopRequest p s).state).loss = s.loss ∧
    ((ackSafeStopRequest p s).state).road = s.road ∧ ((ackSafeStopRequest p s).state).links = s.links ∧
    ((ackSafeStopRequest p s).state).linkSettings = s.linkSettings ∧
    ((ackSafeStopRequest p s).state).latches = s.latches ∧
    ((ackSafeStopRequest p s).state).safeStopAsserted = s.safeStopAsserted ∧
    ((ackSafeStopRequest p s).state).record = s.record ∧ ((ackSafeStopRequest p s).state).trace = s.trace ∧
    ((ackSafeStopRequest p s).state).receivers = s.receivers ∧
    ((ackSafeStopRequest p s).state).heldInReset = s.heldInReset ∧
    ((ackSafeStopRequest p s).state).drawn = s.drawn := by
  unfold ackSafeStopRequest; split <;> (repeat' split) <;> simp

@[simp] theorem readRecordRequest_state (s : State) (p : Payload RecordSelector) : (readRecordRequest p s).state = s := by
  unfold readRecordRequest; split <;> (repeat' split) <;> simp

@[simp] theorem statusRequest_state (s : State) (p : Payload Unit) : (statusRequest p s).state = s := rfl
@[simp] theorem snapshotRequest_state (s : State) (p : Payload Unit) : (snapshotRequest p s).state = s := rfl
@[simp] theorem previewRequest_state (s : State) (p : Payload Unit) : (previewRequest p s).state = s := rfl

@[simp] theorem welcome_keeps (s : State) (n : Axis) (rating : Int) :
    (welcome s n rating).pending = s.pending ∧ (welcome s n rating).clock = s.clock ∧
    (welcome s n rating).boundary = s.boundary ∧ (welcome s n rating).queue = s.queue ∧
    (welcome s n rating).schedule = s.schedule ∧ (welcome s n rating).holds = s.holds ∧
    (welcome s n rating).axes = s.axes ∧ (welcome s n rating).sync = s.sync ∧
    (welcome s n rating).directives = s.directives ∧ (welcome s n rating).loss = s.loss ∧
    (welcome s n rating).road = s.road ∧ (welcome s n rating).linkSettings = s.linkSettings ∧
    (welcome s n rating).latches = s.latches ∧ (welcome s n rating).safety = s.safety ∧
    (welcome s n rating).safeStopAsserted = s.safeStopAsserted ∧ (welcome s n rating).record = s.record ∧
    (welcome s n rating).trace = s.trace ∧ (welcome s n rating).receivers = s.receivers ∧
    (welcome s n rating).heldInReset = s.heldInReset ∧ (welcome s n rating).drawn = s.drawn := by
  simp [welcome]

@[simp] theorem helloRequest_keeps (s : State) (n : Axis) (payload : List Byte) :
    ((helloRequest n payload s).state).pending = s.pending ∧ ((helloRequest n payload s).state).clock = s.clock ∧
    ((helloRequest n payload s).state).boundary = s.boundary ∧ ((helloRequest n payload s).state).queue = s.queue ∧
    ((helloRequest n payload s).state).sync = s.sync ∧ ((helloRequest n payload s).state).loss = s.loss ∧
    ((helloRequest n payload s).state).linkSettings = s.linkSettings ∧
    ((helloRequest n payload s).state).safety = s.safety ∧
    ((helloRequest n payload s).state).safeStopAsserted = s.safeStopAsserted ∧
    ((helloRequest n payload s).state).trace = s.trace ∧ ((helloRequest n payload s).state).receivers = s.receivers ∧
    ((helloRequest n payload s).state).heldInReset = s.heldInReset ∧
    ((helloRequest n payload s).state).drawn = s.drawn := by
  unfold helloRequest; split <;> (repeat' split) <;> simp

@[simp] theorem takeSample_keeps (s : State) (n : Axis) (p : PollFields) :
    (takeSample s n p).pending = s.pending ∧ (takeSample s n p).clock = s.clock ∧
    (takeSample s n p).boundary = s.boundary ∧ (takeSample s n p).queue = s.queue ∧ (takeSample s n p).sync = s.sync ∧
    (takeSample s n p).linkSettings = s.linkSettings ∧ (takeSample s n p).safety = s.safety ∧
    (takeSample s n p).safeStopAsserted = s.safeStopAsserted ∧ (takeSample s n p).trace = s.trace ∧
    (takeSample s n p).receivers = s.receivers ∧ (takeSample s n p).heldInReset = s.heldInReset ∧
    (takeSample s n p).drawn = s.drawn := by
  simp [takeSample]

@[simp] theorem demandServed_keeps (s : State) (n : Axis) :
    ((demandServed s n).state).pending = s.pending ∧ ((demandServed s n).state).clock = s.clock ∧
    ((demandServed s n).state).boundary = s.boundary ∧ ((demandServed s n).state).queue = s.queue ∧
    ((demandServed s n).state).schedule = s.schedule ∧ ((demandServed s n).state).holds = s.holds ∧
    ((demandServed s n).state).sync = s.sync ∧ ((demandServed s n).state).directives = s.directives ∧
    ((demandServed s n).state).loss = s.loss ∧ ((demandServed s n).state).road = s.road ∧
    ((demandServed s n).state).links = s.links ∧ ((demandServed s n).state).linkSettings = s.linkSettings ∧
    ((demandServed s n).state).latches = s.latches ∧ ((demandServed s n).state).safety = s.safety ∧
    ((demandServed s n).state).safeStopAsserted = s.safeStopAsserted ∧ ((demandServed s n).state).record = s.record ∧
    ((demandServed s n).state).trace = s.trace ∧ ((demandServed s n).state).receivers = s.receivers ∧
    ((demandServed s n).state).heldInReset = s.heldInReset ∧ ((demandServed s n).state).drawn = s.drawn := by
  simp [demandServed]

@[simp] theorem pollRequest_keeps (s : State) (n : Axis) (payload : List Byte) :
    ((pollRequest n payload s).state).pending = s.pending ∧ ((pollRequest n payload s).state).clock = s.clock ∧
    ((pollRequest n payload s).state).boundary = s.boundary ∧ ((pollRequest n payload s).state).queue = s.queue ∧
    ((pollRequest n payload s).state).sync = s.sync ∧
    ((pollRequest n payload s).state).linkSettings = s.linkSettings ∧
    ((pollRequest n payload s).state).safety = s.safety ∧
    ((pollRequest n payload s).state).safeStopAsserted = s.safeStopAsserted ∧
    ((pollRequest n payload s).state).trace = s.trace ∧ ((pollRequest n payload s).state).receivers = s.receivers ∧
    ((pollRequest n payload s).state).heldInReset = s.heldInReset ∧
    ((pollRequest n payload s).state).drawn = s.drawn := by
  unfold pollRequest; split <;> (repeat' split) <;> simp

/-! ## The safety latch -/

@[simp] theorem safeStopReactions_keeps (s : State) :
    (safeStopReactions s).pending = s.pending ∧ (safeStopReactions s).clock = s.clock ∧
    (safeStopReactions s).boundary = s.boundary ∧ (safeStopReactions s).queue = s.queue ∧
    (safeStopReactions s).holds = s.holds ∧ (safeStopReactions s).sync = s.sync ∧
    (safeStopReactions s).loss = s.loss ∧ (safeStopReactions s).links = s.links ∧
    (safeStopReactions s).linkSettings = s.linkSettings ∧ (safeStopReactions s).latches = s.latches ∧
    (safeStopReactions s).safety = s.safety ∧ (safeStopReactions s).safeStopAsserted = s.safeStopAsserted ∧
    (safeStopReactions s).trace = s.trace ∧ (safeStopReactions s).receivers = s.receivers ∧
    (safeStopReactions s).heldInReset = s.heldInReset ∧ (safeStopReactions s).drawn = s.drawn := by
  unfold safeStopReactions; dsimp only; split <;> simp [axes]

@[simp] theorem assertSafeStop_keeps (s : State) :
    (assertSafeStop s).pending = s.pending ∧ (assertSafeStop s).clock = s.clock ∧
    (assertSafeStop s).boundary = s.boundary ∧ (assertSafeStop s).queue = s.queue ∧
    (assertSafeStop s).holds = s.holds ∧ (assertSafeStop s).sync = s.sync ∧ (assertSafeStop s).loss = s.loss ∧
    (assertSafeStop s).links = s.links ∧ (assertSafeStop s).linkSettings = s.linkSettings ∧
    (assertSafeStop s).latches = s.latches ∧ (assertSafeStop s).trace = s.trace ∧
    (assertSafeStop s).receivers = s.receivers ∧ (assertSafeStop s).heldInReset = s.heldInReset ∧
    (assertSafeStop s).drawn = s.drawn := by
  unfold assertSafeStop; dsimp only; split <;> simp

@[simp] theorem deassertSafeStop_keeps (s : State) :
    (deassertSafeStop s).pending = s.pending ∧ (deassertSafeStop s).clock = s.clock ∧
    (deassertSafeStop s).boundary = s.boundary ∧ (deassertSafeStop s).queue = s.queue ∧
    (deassertSafeStop s).schedule = s.schedule ∧ (deassertSafeStop s).holds = s.holds ∧
    (deassertSafeStop s).axes = s.axes ∧ (deassertSafeStop s).sync = s.sync ∧
    (deassertSafeStop s).directives = s.directives ∧ (deassertSafeStop s).loss = s.loss ∧
    (deassertSafeStop s).road = s.road ∧ (deassertSafeStop s).links = s.links ∧
    (deassertSafeStop s).linkSettings = s.linkSettings ∧ (deassertSafeStop s).latches = s.latches ∧
    (deassertSafeStop s).record = s.record ∧ (deassertSafeStop s).trace = s.trace ∧
    (deassertSafeStop s).receivers = s.receivers ∧ (deassertSafeStop s).heldInReset = s.heldInReset ∧
    (deassertSafeStop s).drawn = s.drawn := by
  simp [deassertSafeStop]

end Sys2Proof.Machine
end

