-- ==== Sys2Proof/Laws/Step.lean ====
section
/-!
SUPPORT. What a step can do, said once: a property that the writes listed in `Stable` keep is kept by every step.
-/
namespace Sys2Proof.Machine

/-! ## The owed reactions -/

@[simp] theorem takeOwed_owed (s : State) (r : Reaction) :
    (takeOwed s r).boundary.owed = s.boundary.owed.filter (· ≠ r) := by
  unfold takeOwed
  split
  · simp
  · next h =>
    refine (List.filter_eq_self.2 fun x hx => ?_).symm
    have : x ≠ r := fun e => h (e ▸ hx)
    simpa using this

@[simp] theorem takeOwed_foundActive (s : State) (r : Reaction) :
    (takeOwed s r).boundary.foundActive = s.boundary.foundActive := by
  unfold takeOwed; split <;> simp

theorem mem_reactions (r : Reaction) : r ∈ reactions := by
  cases r with
  | link n => fin_cases n <;> decide
  | _ => decide

/-- Nothing is owed once a boundary has been taken in full. -/
@[simp] theorem settle_owed (s : State) : (settle s).boundary.owed = [] := by
  have key : ∀ (xs : List Reaction) (t : State), (xs.foldl takeOwed t).boundary.owed = t.boundary.owed.filter (· ∉ xs) := by
    intro xs
    induction xs with
    | nil => simp
    | cons x xs ih =>
      intro t
      simp only [List.foldl_cons, ih, takeOwed_owed, List.filter_filter]
      congr 1
      funext r
      simp [Bool.and_comm]
  unfold settle
  rw [key, List.filter_eq_nil_iff]
  intro r _
  simp [mem_reactions r]

theorem takeOwed_of_not_mem (s : State) (r : Reaction) (h : r ∉ s.boundary.owed) : takeOwed s r = s := by
  simp [takeOwed, h]

/-- With nothing owed there is nothing to take. -/
theorem settle_of_owed_nil (s : State) (h : s.boundary.owed = []) : settle s = s := by
  have key : ∀ xs : List Reaction, xs.foldl takeOwed s = s := by
    intro xs
    induction xs with
    | nil => rfl
    | cons x xs ih => simp [takeOwed_of_not_mem s x (by simp [h]), ih]
  exact key reactions

@[simp] theorem settle_settle (s : State) : settle (settle s) = settle s := settle_of_owed_nil _ (settle_owed s)

/-! ## The requests -/

/-- The handlers of the requests. -/
inductive Request : (State → Served) → Prop where
  | setClock (p : Payload Nat) : Request (setClockRequest p)
  | clockStart (p : Payload Unit) : Request (clockStartRequest p)
  | clockHalt (p : Payload Unit) : Request (clockHaltRequest p)
  | reset (p : Payload Unit) : Request (resetRequest p)
  | block (r : Option (List RawRecord)) : Request (blockRequest r)
  | flush (p : Payload Unit) : Request (flushRequest p)
  | startRun (p : Payload Unit) : Request (startRunRequest p)
  | abortRun (p : Payload Unit) : Request (abortRunRequest p)
  | closeRun (p : Payload Unit) : Request (closeRunRequest p)
  | setRun (p : Payload RunFields) : Request (setRunRequest p)
  | hold (src : Sender) (p : Payload HoldFields) : Request (holdRequest src p)
  | release (src : Sender) (p : Payload Unit) : Request (releaseRequest src p)
  | releaseHolder (p : Payload HolderTarget) : Request (releaseHolderRequest p)
  | setAxis (p : Payload AxisFields) : Request (setAxisRequest p)
  | setSync (p : Payload SyncSettings) : Request (setSyncRequest p)
  | couple (p : Payload CoupleFields) : Request (coupleRequest p)
  | setGuards (p : Payload GuardSettings) : Request (setGuardsRequest p)
  | setBands (p : Payload BandSettings) : Request (setBandsRequest p)
  | setLoss (p : Payload (List LossItem)) : Request (setLossRequest p)
  | loadBank (p : Payload BankFields) : Request (loadBankRequest p)
  | selectBank (p : Payload (Option BankName)) : Request (selectBankRequest p)
  | setLinks (p : Payload LinkSettings) : Request (setLinksRequest p)
  | readFault (p : Payload Nat) : Request (readFaultRequest p)
  | clearFault (p : Payload Nat) : Request (clearFaultRequest p)
  | ackSafeStop (p : Payload Unit) : Request (ackSafeStopRequest p)
  | hello (n : Axis) (payload : List Byte) : Request (helloRequest n payload)
  | poll (n : Axis) (payload : List Byte) : Request (pollRequest n payload)
  | reads (h : State → Served) (nothing : ∀ s, (h s).state = s) : Request h

theorem permitted_state (h : State → Served) (src : Sender) (kind : Byte) (s : State) :
    (permitted src kind h s).state = (h s).state ∨ (permitted src kind h s).state = s := by
  unfold permitted; split
  · exact .inl rfl
  · exact .inr rfl

/-- A property is kept by every write that a step is made of. -/
structure Stable (P : State → Prop) : Prop where
  /-- A receiver changes. -/
  receiver : ∀ (s : State) (p : Port) (r : Receiver), P s → P (s.setReceiver p r)
  /-- An owed reaction is taken. -/
  taken : ∀ (s : State) (r : Reaction), r ∈ s.boundary.owed → P s →
    P (react r { s with boundary := { s.boundary with owed := s.boundary.owed.filter (· ≠ r) } })
  /-- A boundary is produced. -/
  begins : ∀ s : State, s.boundary.owed = [] → boundaryOccurs s = true → P s → P (beginBoundary s)
  /-- A request is handled. -/
  request : ∀ (h : State → Served), Request h → ∀ s : State, s.boundary.owed = [] → P s → P (h s).state
  /-- A link breaks. -/
  broken : ∀ (s : State) (n : Axis), (s.link n).state = .up → P s → P (loseLink s n)
  /-- SAFE-STOP changes. -/
  asserted : ∀ s : State, P s → P (assertSafeStop s)
  deasserted : ∀ s : State, P s → P (deassertSafeStop s)
  /-- The clock's outputs and the timing of held lines change. -/
  outputs : ∀ (s : State) (mark : Bool) (lines : Lines) (rest : Option Nat), P s →
    P (s.withClock { s.clock with frameMark := mark, lines := lines, lineHold := rest })
  /-- The frame position advances. -/
  position : ∀ (s : State) (p : Nat), s.clock.state = .running → p ≤ s.clock.n → P s →
    P (s.withClock { s.clock with position := some p })
  /-- A free value is drawn. -/
  drawn : ∀ (s : State) (k : Nat), P s → P { s with drawn := k }
  /-- The part is held in reset. -/
  held : ∀ s : State, P s → P (holdInReset s)
  /-- A full reset ends. -/
  full : ∀ (b : Bool) (s : State), P s → P (fullReset b s)

namespace Stable
variable {P : State → Prop} (h : Stable P)
include h

theorem takeOwed {s : State} (r : Reaction) (hs : P s) : P (takeOwed s r) := by
  unfold Machine.takeOwed; split
  · next hr => exact h.taken s r hr hs
  · exact hs

theorem settle {s : State} (hs : P s) : P (settle s) :=
  foldl_property P _ (fun _ r ht => h.takeOwed r ht) reactions s hs

theorem takeReaction {s : State} (r : Reaction) (hs : P s) : P (takeReaction s r) := by
  cases r with
  | trace => exact h.takeOwed _ (h.takeOwed _ hs)
  | limit => exact h.settle hs
  | _ => exact h.takeOwed _ hs

theorem takeEvent {s : State} (r : Reaction) (happens : Bool) (hs : P s) : P (takeEvent r happens s) := by
  unfold Machine.takeEvent; split
  · exact h.takeReaction _ hs
  · exact hs

theorem boundaryStep {s : State} (order left : List Reaction) (hs : P s) : P (boundaryStep order left s) := by
  unfold Machine.boundaryStep; dsimp only; split
  · next hb =>
    exact foldl_property P _ (fun _ r ht => h.takeReaction r ht) _ _ (h.begins _ (settle_owed s) hb (h.settle hs))
  · exact h.settle hs

theorem clearLines {s : State} (hs : P s) : P (clearLines s) := h.outputs s s.clock.frameMark _ _ hs

theorem countLineHold {s : State} (hs : P s) : P (countLineHold s) := by
  unfold Machine.countLineHold; split
  · exact hs
  · split
    · exact h.clearLines hs
    · exact h.outputs s s.clock.frameMark s.clock.lines _ hs

theorem tick {s : State} (hs : P s) : P (tick s) := by
  unfold Machine.tick; dsimp only; split
  · exact hs
  · have hu := h.countLineHold
      (h.outputs (Machine.settle s) false (Machine.settle s).clock.lines (Machine.settle s).clock.lineHold (h.settle hs))
    split
    · exact hu
    · next hrun =>
      split
      · next hp => exact h.position _ _ hrun hp hu
      · exact h.boundaryStep _ _ (h.drawn _ _ hu)

theorem serve {g : State → Served} {s : State} (p : Port) (address kind : Byte) (hg : P (g s).state) :
    P (serve p address kind g s) := h.receiver _ _ _ hg

theorem takeMessage {s : State} (p : Port) (handled : State → State)
    (hg : ∀ t : State, t.boundary.owed = [] → P t → P (handled t)) (hs : P s) : P (takeMessage p handled s) := by
  unfold Machine.takeMessage; dsimp only; split
  · exact hg _ (settle_owed s) (h.settle hs)
  · exact h.settle hs

theorem permitted {g : State → Served} (hr : Request g) (src : Sender) (kind : Byte) {s : State}
    (ho : s.boundary.owed = []) (hs : P s) : P (permitted src kind g s).state := by
  rcases permitted_state g src kind s with e | e <;> rw [e]
  · exact h.request g hr s ho hs
  · exact hs

theorem takeStation {g : State → Served} (hr : Request g) (src : Sender) (kind : Byte) {s : State} (hs : P s) :
    P (takeStation src kind g s) :=
  h.takeMessage _ _ (fun _ ho ht => h.serve _ _ _ (h.permitted hr src kind ho ht)) hs

theorem takeDrive {g : State → Served} (hr : Request g) (n dest : Axis) (kind : Byte) {s : State} (hs : P s) :
    P (takeDrive n dest kind g s) :=
  h.takeMessage _ _ (fun _ ho ht => h.serve _ _ _ (h.request g hr _ ho ht)) hs

end Stable

/-- Every request that a station message can carry is one of the handlers. -/
theorem stationRequest_cases (src : Sender) (kind : Byte) (payload : List Byte) :
    Request (stationRequest src kind payload) := by
  unfold stationRequest
  split
  case h_1 => exact .setClock _
  case h_2 => exact .clockStart _
  case h_3 => exact .clockHalt _
  case h_4 => exact .reset _
  case h_5 => exact .block _
  case h_6 => exact .block _
  case h_7 => exact .flush _
  case h_8 => exact .startRun _
  case h_9 => exact .abortRun _
  case h_10 => exact .closeRun _
  case h_11 => exact .setRun _
  case h_12 => exact .hold _ _
  case h_13 => exact .release _ _
  case h_14 => exact .releaseHolder _
  case h_15 => exact .setAxis _
  case h_16 => exact .setSync _
  case h_17 => exact .reads _ (fun s => by simp)
  case h_18 => exact .couple _
  case h_19 => exact .setGuards _
  case h_20 => exact .setBands _
  case h_21 => exact .setLoss _
  case h_22 => exact .loadBank _
  case h_23 => exact .selectBank _
  case h_24 => exact .setLinks _
  case h_25 => exact .readFault _
  case h_26 => exact .clearFault _
  case h_27 => exact .ackSafeStop _
  case h_28 => exact .reads _ (fun s => by simp)
  case h_29 => exact .reads _ (fun s => by simp)
  case h_30 => exact .reads _ (fun s => by simp)
  case h_31 => exact .reads _ (fun s => by simp)
  case h_32 => exact .reads _ (fun s => rfl)

namespace Stable
variable {P : State → Prop} (h : Stable P)
include h

theorem stationServed (src : Sender) (kind : Byte) (payload : List Byte) {s : State} (ho : s.boundary.owed = [])
    (hs : P s) : P (stationServed src kind payload s).state := by
  unfold Machine.stationServed; split
  · exact h.permitted (stationRequest_cases src kind payload) src kind ho hs
  · exact hs

theorem driveServed (n : Axis) (kind : Byte) (payload : List Byte) {s : State} (ho : s.boundary.owed = []) (hs : P s) :
    P (driveServed n kind payload s).state := by
  unfold Machine.driveServed; split
  · exact h.request _ (.hello n payload) s ho hs
  · split
    · exact h.request _ (.poll n payload) s ho hs
    · exact hs

theorem judgeMessage (p : Port) (address kind : Byte) (payload : List Byte) {s : State} (ho : s.boundary.owed = [])
    (hs : P s) : P (judgeMessage p address kind payload s) := by
  unfold Machine.judgeMessage; split
  · split
    · exact h.serve _ _ _ (h.driveServed _ _ _ ho hs)
    · exact hs
  · split
    · exact h.serve _ _ _ (h.stationServed _ _ _ ho hs)
    · exact hs

theorem takeBytes (p : Port) (bytes : List Byte) {s : State} (ho : s.boundary.owed = []) (hs : P s) :
    P (takeBytes p bytes s) := by
  unfold Machine.takeBytes; dsimp only; split
  · split
    · exact h.judgeMessage _ _ _ _ ho hs
    · exact hs
  · exact hs

theorem lineFallsIdle (p : Port) {s : State} (ho : s.boundary.owed = []) (hs : P s) : P (lineFallsIdle p s) := by
  unfold Machine.lineFallsIdle; split
  · split
    · exact h.takeBytes _ _ (by simp [ho]) (h.receiver _ _ _ hs)
    · exact h.receiver _ _ _ hs
  · exact h.receiver _ _ _ hs
  · exact hs
  · exact hs

theorem breakLine (p : Port) {s : State} (hs : P s) : P (breakLine p s) := by
  unfold Machine.breakLine; dsimp only; split
  · split
    · next hup => exact h.broken _ _ (by simpa [State.link] using hup) (h.receiver _ _ _ hs)
    · exact h.receiver _ _ _ hs
  · exact h.receiver _ _ _ hs
  · exact h.receiver _ _ _ hs

theorem receiverEvent {f : State → State} {s : State}
    (hf : ∀ t : State, t.boundary.owed = [] → P t → P (f t)) (hs : P s) : P (receiverEvent f s) := by
  unfold Machine.receiverEvent; dsimp only; split
  · exact h.settle hs
  · exact hf _ (settle_owed s) (h.settle hs)

end Stable

/-- A property that the writes of a step keep is kept by every command. -/
theorem exec_keeps {P : State → Prop} (h : Stable P) (c : Instr) {s t : State} (hs : P s) (ht : exec c s = .next t) :
    P t := by
  cases c <;> simp only [exec] at ht
  case setClock src p => injection ht with ht; subst ht; exact h.takeStation (.setClock p) _ _ hs
  case clockStart src p => injection ht with ht; subst ht; exact h.takeStation (.clockStart p) _ _ hs
  case clockHalt src p => injection ht with ht; subst ht; exact h.takeStation (.clockHalt p) _ _ hs
  case reset src p => injection ht with ht; subst ht; exact h.takeStation (.reset p) _ _ hs
  case append src b => injection ht with ht; subst ht; exact h.takeStation (.block _) _ _ hs
  case loadBlock src b => injection ht with ht; subst ht; exact h.takeStation (.block _) _ _ hs
  case flush src p => injection ht with ht; subst ht; exact h.takeStation (.flush p) _ _ hs
  case startRun src p => injection ht with ht; subst ht; exact h.takeStation (.startRun p) _ _ hs
  case abortRun src p => injection ht with ht; subst ht; exact h.takeStation (.abortRun p) _ _ hs
  case closeRun src p => injection ht with ht; subst ht; exact h.takeStation (.closeRun p) _ _ hs
  case setRun src p => injection ht with ht; subst ht; exact h.takeStation (.setRun p) _ _ hs
  case hold src p => injection ht with ht; subst ht; exact h.takeStation (.hold _ p) _ _ hs
  case release src p => injection ht with ht; subst ht; exact h.takeStation (.release _ p) _ _ hs
  case releaseHolder src p => injection ht with ht; subst ht; exact h.takeStation (.releaseHolder p) _ _ hs
  case setAxis src p => injection ht with ht; subst ht; exact h.takeStation (.setAxis p) _ _ hs
  case setSync src p => injection ht with ht; subst ht; exact h.takeStation (.setSync p) _ _ hs
  case readAxis src p => injection ht with ht; subst ht; exact h.takeStation (.reads _ (fun s => by simp)) _ _ hs
  case couple src p => injection ht with ht; subst ht; exact h.takeStation (.couple p) _ _ hs
  case setGuards src p => injection ht with ht; subst ht; exact h.takeStation (.setGuards p) _ _ hs
  case setBands src p => injection ht with ht; subst ht; exact h.takeStation (.setBands p) _ _ hs
  case setLoss src p => injection ht with ht; subst ht; exact h.takeStation (.setLoss p) _ _ hs
  case loadBank src p => injection ht with ht; subst ht; exact h.takeStation (.loadBank p) _ _ hs
  case selectBank src p => injection ht with ht; subst ht; exact h.takeStation (.selectBank p) _ _ hs
  case setLinks src p => injection ht with ht; subst ht; exact h.takeStation (.setLinks p) _ _ hs
  case readFault src p => injection ht with ht; subst ht; exact h.takeStation (.readFault p) _ _ hs
  case clearFault src p => injection ht with ht; subst ht; exact h.takeStation (.clearFault p) _ _ hs
  case ackSafeStop src p => injection ht with ht; subst ht; exact h.takeStation (.ackSafeStop p) _ _ hs
  case readRecord src p => injection ht with ht; subst ht; exact h.takeStation (.reads _ (fun s => by simp)) _ _ hs
  case status src p => injection ht with ht; subst ht; exact h.takeStation (.reads _ (fun s => by simp)) _ _ hs
  case snapshot src p => injection ht with ht; subst ht; exact h.takeStation (.reads _ (fun s => by simp)) _ _ hs
  case preview src p => injection ht with ht; subst ht; exact h.takeStation (.reads _ (fun s => by simp)) _ _ hs
  case unknownRequest p address kind =>
    injection ht with ht; subst ht
    refine h.takeMessage _ _ (fun u _ hu => ?_) hs
    split
    · exact h.serve _ _ _ hu
    · exact hu
  case badCheckDiscard p => injection ht with ht; subst ht; exact h.takeMessage _ _ (fun _ _ hu => hu) hs
  case addressIgnored p address =>
    injection ht with ht; subst ht
    refine h.takeMessage _ _ (fun u _ hu => ?_) hs
    split <;> exact hu
  case hello n dest b => injection ht with ht; subst ht; exact h.takeDrive (.hello n b) _ _ _ hs
  case poll n dest b => injection ht with ht; subst ht; exact h.takeDrive (.poll n b) _ _ _ hs
  case lockAcquired n dest b =>
    injection ht with ht; subst ht
    split
    · exact h.takeDrive (.poll n b) _ _ _ hs
    · exact hs
  case slipPersist n dest b =>
    injection ht with ht; subst ht
    split
    · exact h.takeDrive (.poll n b) _ _ _ hs
    · exact hs
  case frameBoundary order left => injection ht with ht; subst ht; exact h.boundaryStep _ _ hs
  case frameMarkEnd =>
    injection ht with ht; subst ht
    exact h.outputs (settle s) false (settle s).clock.lines (settle s).clock.lineHold (h.settle hs)
  case phaseLineHoldEnd =>
    injection ht with ht; subst ht
    split
    · exact h.clearLines (h.settle hs)
    · exact h.settle hs
  case frameLimit => injection ht with ht; subst ht; exact h.takeEvent _ _ hs
  case segmentEnd => injection ht with ht; subst ht; exact h.takeEvent _ _ hs
  case segmentStart => injection ht with ht; subst ht; exact h.takeEvent _ _ hs
  case endTaken => injection ht with ht; subst ht; exact h.takeEvent _ _ hs
  case dwellLimit => injection ht with ht; subst ht; exact h.takeEvent _ _ hs
  case stopComplete => injection ht with ht; subst ht; exact h.takeEvent _ _ hs
  case holdExpiry => injection ht with ht; subst ht; exact h.takeEvent _ _ hs
  case linkTimeout n => injection ht with ht; subst ht; exact h.takeEvent _ _ hs
  case applyEngage n => injection ht with ht; subst ht; exact h.takeEvent _ _ hs
  case applyRelease n => injection ht with ht; subst ht; exact h.takeEvent _ _ hs
  case traceDeviation => injection ht with ht; subst ht; exact h.takeEvent _ _ hs
  case safeStopAssert =>
    injection ht with ht; subst ht
    split
    · exact h.settle hs
    · exact h.asserted _ (h.settle hs)
  case safeStopDeassert =>
    injection ht with ht; subst ht
    split
    · exact h.settle hs
    · exact h.deasserted _ (h.settle hs)
  case resetLineAssert => injection ht with ht; subst ht; exact h.held _ (h.settle hs)
  case resetLineRelease b =>
    injection ht with ht; subst ht
    split
    · exact h.full b s hs
    · exact h.settle hs
  case powerOn b => injection ht with ht; subst ht; exact h.full b s hs
  case lineBreak p => injection ht with ht; subst ht; exact h.receiverEvent (fun _ _ hu => h.breakLine p hu) hs
  case tear p => injection ht with ht; subst ht; exact h.receiverEvent (fun _ _ hu => h.receiver _ _ _ hu) hs
  case answerSent p => injection ht with ht; subst ht; exact h.receiverEvent (fun _ _ hu => h.receiver _ _ _ hu) hs
  case lineIdle p => injection ht with ht; subst ht; exact h.receiverEvent (fun _ ho hu => h.lineFallsIdle p ho hu) hs
  case byteArrival p b => injection ht with ht; subst ht; exact h.receiverEvent (fun _ _ hu => h.receiver _ _ _ hu) hs

/-- And so by every step, where it does not speak of the commands that wait. -/
theorem step_keeps {P : State → Prop} (h : Stable P) (hq : ∀ (s : State) (q : List Instr), P s → P { s with pending := q })
    {s t : State} (hs : P s) (ht : step s = .next t) : P t := by
  unfold step at ht
  split at ht
  · injection ht with ht; subst ht; exact h.tick hs
  · exact exec_keeps h _ (hq s _ hs) ht

end Sys2Proof.Machine
end

