-- ==== Sys2Proof/Laws/Reactions.lean ====
section
/-!
SUPPORT. What the reactions leave: the clock under the engine's reaction, the schedule of a part with no run active, and how
the shared operations keep the properties of the fault latches and of the placement order.
-/
namespace Sys2Proof.Machine

/-! ## Operands -/

@[simp] theorem axisOf_val (n : Axis) : axisOf n.val = some n := by simp [axisOf]

theorem axisOf_of_le (i : Nat) (h : 4 ≤ i) : axisOf i = none := by simp [axisOf]; omega

theorem fieldOf_two (a b : Byte) : fieldOf [a, b] = 256 * a.toNat + b.toNat := by simp [fieldOf]; omega

theorem boundaryOccurs_iff (s : State) :
    boundaryOccurs s = true ↔ s.clock.state = .running ∧ s.heldInReset = false ∧ s.clock.f < Config.frameLimit := by
  simp [boundaryOccurs, and_assoc]

/-! ## The clock under the engine's reaction: the phase mark lines alone change -/

theorem handStart_clock (s : State) (g : Segment) : ∃ l, (handStart s g).clock = { s.clock with lines := l } := by
  unfold handStart; dsimp only; split
  · exact ⟨s.clock.lines, by simp⟩
  · next p _ => exact ⟨p.lines, by simp [driveLines]⟩

theorem startSegment_clock (s : State) (g : Segment) : ∃ l, (startSegment s g).clock = { s.clock with lines := l } := by
  unfold startSegment; dsimp only
  split
  all_goals
    obtain ⟨l, hl⟩ := handStart_clock (addDistance (beginSegment (setScheduleState (takeHead _) .running) g)) g
    exact ⟨l, hl.trans (by simp)⟩

theorem takeAtGate_clock (s : State) : ∃ l, (takeAtGate s).clock = { s.clock with lines := l } := by
  unfold takeAtGate; split
  · exact ⟨_, rfl⟩
  · split
    · exact ⟨s.clock.lines, by simp⟩
    all_goals exact startSegment_clock s _

theorem passGate_clock (s : State) : ∃ l, (passGate s).clock = { s.clock with lines := l } := by
  unfold passGate; split
  · exact takeAtGate_clock s
  · exact ⟨s.clock.lines, by simp⟩

theorem reactSchedule_clock (s : State) : ∃ l, (reactSchedule s).clock = { s.clock with lines := l } := by
  unfold reactSchedule
  split
  case h_4 =>
    unfold reactArmed; split
    · exact takeAtGate_clock s
    · exact ⟨_, rfl⟩
  case h_5 =>
    unfold reactRunning
    split
    · exact ⟨s.clock.lines, by simp⟩
    · next a _ =>
      split
      · exact ⟨s.clock.lines, by simp⟩
      · obtain ⟨l, hl⟩ := passGate_clock (endSegment (progress s a) a.record)
        exact ⟨l, hl.trans (by simp)⟩
  case h_6 =>
    unfold reactDwell; dsimp only
    split
    · exact takeAtGate_clock s
    · refine ⟨s.clock.lines, ?_⟩
      split <;> simp
  case h_7 =>
    unfold reactStopping; dsimp only
    refine ⟨s.clock.lines, ?_⟩
    split <;> simp
  all_goals exact ⟨_, rfl⟩

theorem scheduleReaction_clock (s : State) :
    ∃ l, (scheduleReaction s).clock = { s.clock with lines := l, lineHold := none } := by
  obtain ⟨l, hl⟩ := reactSchedule_clock (clearLines s)
  exact ⟨l, by simpa [scheduleReaction, clearLines] using hl⟩

theorem ClockSound.of_clock {s t : State} (h : ClockSound s) (n : t.clock.n = s.clock.n) (f : t.clock.f = s.clock.f)
    (st : t.clock.state = s.clock.state) (p : t.clock.position = s.clock.position) : ClockSound t := by
  unfold ClockSound at *; rw [n, f, st, p]; exact h

/-! ## With no run active the schedule stays -/

theorem inactive_iff (s : State) :
    s.runActive = false ↔
      s.schedule.state = .idle ∨ s.schedule.state = .ended ∨ s.schedule.state = .aborted := by
  unfold State.runActive ScheduleState.active
  cases s.schedule.state <;> simp

theorem reactSchedule_inactive (s : State) (h : s.runActive = false) : reactSchedule s = s := by
  unfold reactSchedule
  cases e : s.schedule.state <;> simp_all [State.runActive, ScheduleState.active]

theorem applyFaultPolicy_inactive (s : State) (h : s.runActive = false) : applyFaultPolicy s = s := by
  unfold applyFaultPolicy
  cases e : s.schedule.state <;> simp_all [State.runActive, ScheduleState.active]

theorem faultReactions_schedule_inactive (s : State) (n : Axis) (c : Cause) (h : s.runActive = false) :
    (faultReactions s n c).schedule = s.schedule := by
  unfold faultReactions; dsimp only
  rw [applyFaultPolicy_inactive]
  · simp
  · simpa [State.runActive] using h

theorem raiseCause_schedule_inactive (s : State) (n : Axis) (c : Cause) (code : Option Byte) (h : s.runActive = false) :
    (raiseCause s n c code).schedule = s.schedule := by
  cases e : (s.latch n).state
  · rw [raiseCause_clear _ _ _ _ e, faultReactions_schedule_inactive]
    · simp
    · simpa [State.runActive] using h
  · rw [raiseCause_set _ _ _ _ e]; simp

theorem loseLink_schedule_inactive (s : State) (n : Axis) (h : s.runActive = false) :
    (loseLink s n).schedule = s.schedule := by
  unfold loseLink; dsimp only; split
  · rw [raiseCause_schedule_inactive] <;> simpa [State.runActive] using h
  · simp

theorem react_schedule_inactive (r : Reaction) (s : State) (h : s.runActive = false) :
    (react r s).schedule = s.schedule := by
  cases r <;> simp only [react]
  all_goals try (simp; done)
  · unfold scheduleReaction; dsimp only; rw [reactSchedule_inactive]
    · simp
    · simpa [State.runActive] using h
  · unfold linkReaction; split
    · exact loseLink_schedule_inactive s _ h
    · rfl
  · unfold limitReaction; split
    · have : (haltClock s (s.clock.n + 1)).runActive = false := by simpa [State.runActive] using h
      simp [this]
    · rfl

theorem syncUpdate_schedule_inactive (s : State) (n : Axis) (h : s.runActive = false) :
    (syncUpdate s n).schedule = s.schedule := by
  unfold syncUpdate; dsimp only
  split <;> (repeat' split) <;> (first | (simp; done) | (rw [raiseCause_schedule_inactive] <;> simpa [State.runActive] using h))

theorem deliver_schedule_inactive (s : State) (n : Axis) (cls : SampleClass) (p : PollFields) (t : Option Int)
    (h : s.runActive = false) : (deliver s n cls p t).schedule = s.schedule := by
  have key : ∀ u : State, u.schedule = s.schedule → u.runActive = false := fun u e => by simpa [State.runActive, e] using h
  have r : ∀ (u : State) (c : Cause) (code : Option Byte),
      u.schedule = s.schedule → (raiseCause u n c code).schedule = s.schedule :=
    fun u c code e => (raiseCause_schedule_inactive u n c code (key u e)).trans e
  have y : ∀ u : State, u.schedule = s.schedule → (syncUpdate u n).schedule = s.schedule :=
    fun u e => (syncUpdate_schedule_inactive u n (key u e)).trans e
  unfold deliver; dsimp only
  split <;> (repeat' split) <;> simp [r, y]

/-! ## The fault latches -/

theorem LatchesSound.of_latches (s t : State) (h : t.latches = s.latches) (hs : LatchesSound s) : LatchesSound t := by
  unfold LatchesSound State.latch at *; rw [h]; exact hs

theorem setLatch_latchesSound (s : State) (n : Axis) (l : FaultLatch) (hs : LatchesSound s)
    (hl : (l.state = .clear → l.firstCause = none ∧ l.faultFrame = none ∧ l.driveCode = none ∧
      l.alsoSeen = ⟨false, false, false, false⟩ ∧ l.armed = false) ∧
    (l.state = .set → l.firstCause.isSome = true ∧ l.faultFrame.isSome = true)) : LatchesSound (s.setLatch n l) := by
  intro m
  unfold State.latch
  simp only [State.setLatch_latches, Four.get_set]
  split
  · exact hl
  · exact hs m

theorem raiseCause_latchesSound (s : State) (n : Axis) (c : Cause) (code : Option Byte) (hs : LatchesSound s) :
    LatchesSound (raiseCause s n c code) := by
  cases e : (s.latch n).state
  · rw [raiseCause_clear _ _ _ _ e]
    exact LatchesSound.of_latches
      (s.setLatch n
        { s.latch n with
          state := .set, firstCause := some c, faultFrame := some s.clock.f
          driveCode := if c = .driveFault then code else none })
      _ (by simp) (setLatch_latchesSound s n _ hs (by simp))
  · rw [raiseCause_set _ _ _ _ e]
    have := (hs n).2 e
    exact setLatch_latchesSound s n _ hs (by simp_all)

theorem loseLink_latchesSound (s : State) (n : Axis) (hs : LatchesSound s) : LatchesSound (loseLink s n) := by
  unfold loseLink; dsimp only; split
  · exact raiseCause_latchesSound _ _ _ _ (LatchesSound.of_latches s _ (by simp) hs)
  · exact LatchesSound.of_latches s _ (by simp) hs

theorem miswire_latchesSound (s : State) (n : Axis) (hs : LatchesSound s) : LatchesSound (miswire s n) := by
  unfold miswire; dsimp only
  refine raiseCause_latchesSound _ _ _ _ (LatchesSound.of_latches s _ ?_ hs)
  split <;> simp

theorem syncUpdate_latchesSound (s : State) (n : Axis) (hs : LatchesSound s) : LatchesSound (syncUpdate s n) := by
  unfold syncUpdate; dsimp only
  split <;> (repeat' split) <;>
    first
    | exact LatchesSound.of_latches s _ (by simp) hs
    | exact raiseCause_latchesSound _ _ _ _ (LatchesSound.of_latches s _ (by simp) hs)

theorem deliver_latchesSound (s : State) (n : Axis) (cls : SampleClass) (p : PollFields) (t : Option Int)
    (hs : LatchesSound s) : LatchesSound (deliver s n cls p t) := by
  unfold deliver; dsimp only
  have h1 : LatchesSound (s.setAxis n { s.axis n with driveStatus := some p.status }) :=
    LatchesSound.of_latches s _ (by simp) hs
  revert h1
  generalize s.setAxis n { s.axis n with driveStatus := some p.status } = v
  intro h1
  have h2 : LatchesSound (if p.status = .fault then raiseCause v n .driveFault p.faultCode else v) := by
    split
    · exact raiseCause_latchesSound _ _ _ _ h1
    · exact h1
  revert h2
  generalize (if p.status = .fault then raiseCause v n .driveFault p.faultCode else v) = w
  intro h2
  cases cls
  · dsimp only; split
    · exact LatchesSound.of_latches w _ (by simp) h2
    · exact syncUpdate_latchesSound _ _ (LatchesSound.of_latches w _ (by simp) h2)
  · exact LatchesSound.of_latches w _ (by simp) h2
  · exact h2

/-! ## The placement order -/

theorem DirectivesSound.of_directives (s t : State) (h : t.directives.order = s.directives.order)
    (h2 : ∀ m, (t.directives.slots.get m).pending = (s.directives.slots.get m).pending) (hs : DirectivesSound s) :
    DirectivesSound t := by
  unfold DirectivesSound State.slot at *; rw [h]; exact ⟨hs.1, fun n => by rw [h2, hs.2]⟩

theorem concludeDirective_directivesSound (s : State) (n : Axis) (o : DirectiveOutcome) (hs : DirectivesSound s) :
    DirectivesSound (concludeDirective s n o) := by
  refine ⟨by simpa using hs.1.filter _, fun m => ?_⟩
  have := hs.2 m
  by_cases e : m = n <;> simp_all [State.slot]

theorem cancelDirective_directivesSound (s : State) (n : Axis) (hs : DirectivesSound s) :
    DirectivesSound (cancelDirective s n) := by
  unfold cancelDirective; split
  · exact concludeDirective_directivesSound s n _ hs
  · exact hs

theorem placeDirective_directivesSound (s : State) (n : Axis) (a : Action) (hs : DirectivesSound s) :
    DirectivesSound (placeDirective s n a) := by
  unfold placeDirective; split
  · refine DirectivesSound.of_directives s _ (by simp) (fun m => ?_) hs
    by_cases e : m = n <;> simp_all [State.slot, Four.get_set]
  · refine ⟨?_, fun m => ?_⟩
    · simp [List.nodup_append, hs.1.filter]
    · have := hs.2 m
      by_cases e : m = n <;> simp_all [State.slot, Four.get_set]

theorem raiseCause_directivesSound (s : State) (n : Axis) (c : Cause) (code : Option Byte) (hs : DirectivesSound s) :
    DirectivesSound (raiseCause s n c code) := by
  cases e : (s.latch n).state
  · rw [raiseCause_clear _ _ _ _ e]
    generalize hv :
      s.setLatch n
        { s.latch n with
          state := .set, firstCause := some c, faultFrame := some s.clock.f
          driveCode := if c = .driveFault then code else none } = v
    have hd : DirectivesSound v := by
      subst hv; exact DirectivesSound.of_directives s _ (by simp) (by simp) hs
    have hl : DirectivesSound (leaveGroup v n .faulted) :=
      DirectivesSound.of_directives v _ (by simp) (by simp) hd
    unfold faultReactions; dsimp only
    exact DirectivesSound.of_directives (cancelDirective (leaveGroup v n .faulted) n) _ (by simp) (by simp)
      (cancelDirective_directivesSound _ _ hl)
  · rw [raiseCause_set _ _ _ _ e]; exact DirectivesSound.of_directives s _ (by simp) (by simp) hs

end Sys2Proof.Machine
end

