-- ==== Sys2Proof/Laws/Engine.lean ====
section
/-!
SUPPORT. What a boundary is made of: the owed reactions as a fold, the directives placed at a segment's start and end, the
parts of a segment's start, a directive considered, and a comparison of the Trace Monitor.
-/
namespace Sys2Proof.Machine
open Sys2Proof

/-! ## The owed reactions -/

/-- Taking one of the first eight reactions by itself and taking it in a boundary are the same once the engine's is taken. -/
theorem takeReaction_of_engineTaken (s : State) (r : Reaction) (hr : r ≠ .limit)
    (hs : Reaction.schedule ∉ s.boundary.owed) : takeReaction s r = takeOwed s r := by
  cases r <;> simp_all [takeReaction, takeOwed_of_not_mem]

theorem foldl_takeReaction_of_engineTaken (xs : List Reaction) (s : State) (hx : Reaction.limit ∉ xs)
    (hs : Reaction.schedule ∉ s.boundary.owed) : xs.foldl takeReaction s = xs.foldl takeOwed s := by
  induction xs generalizing s with
  | nil => rfl
  | cons x xs ih =>
    simp only [List.mem_cons, not_or] at hx
    rw [List.foldl_cons, List.foldl_cons, takeReaction_of_engineTaken s x (fun e => hx.1 e.symm) hs]
    exact ih _ hx.2 (by simp [hs])

theorem foldl_takeOwed_owed (xs : List Reaction) (s : State) :
    (xs.foldl takeOwed s).boundary.owed = s.boundary.owed.filter (· ∉ xs) := by
  induction xs generalizing s with
  | nil => simp
  | cons x xs ih =>
    simp only [List.foldl_cons, ih, takeOwed_owed, List.filter_filter]
    congr 1; funext r; simp [not_or, Bool.and_comm]

theorem foldl_takeOwed_of_disjoint (xs : List Reaction) (s : State) (h : ∀ r ∈ xs, r ∉ s.boundary.owed) :
    xs.foldl takeOwed s = s := by
  induction xs with
  | nil => rfl
  | cons x xs ih =>
    rw [List.foldl_cons, takeOwed_of_not_mem s x (h x (by simp)), ih fun r hr => h r (by simp [hr])]

/-- The model's own order: the engine first, the frame limit last. -/
theorem reactions_eq :
    ∃ inner : List Reaction, reactions = .schedule :: inner ++ [.limit] ∧ Reaction.limit ∉ inner ∧
      Reaction.schedule ∉ inner :=
  ⟨[.directives, .holds, .link 0, .link 1, .link 2, .link 3, .trace], rfl, by decide, by decide⟩

/-- In a boundary the reactions in the model's own order are `settle`. -/
theorem foldl_takeReaction_reactions (s : State) : reactions.foldl takeReaction s = settle s := by
  obtain ⟨inner, eq, hlimit, -⟩ := reactions_eq
  have all (r : Reaction) (h : r ≠ .limit) : r ∈ Reaction.schedule :: inner := by
    have := mem_reactions r
    rw [eq] at this
    simpa [h] using this
  have last (t : State) : takeReaction t .limit = settle t := rfl
  have engine : takeReaction s .schedule = takeOwed s .schedule := rfl
  unfold settle at last ⊢
  rw [eq, List.cons_append, List.foldl_cons, List.foldl_cons, List.foldl_append, List.foldl_append, engine,
    foldl_takeReaction_of_engineTaken inner _ hlimit (by simp), List.foldl_cons, List.foldl_cons, List.foldl_nil, List.foldl_nil,
    last, eq, List.foldl_append, List.foldl_cons, List.foldl_nil, foldl_takeOwed_of_disjoint]
  intro r hr
  rw [foldl_takeOwed_owed, takeOwed_owed]
  simp only [List.mem_filter, decide_eq_true_eq, not_and]
  intro h hn
  rcases List.mem_cons.mp hr with rfl | hi
  · simp at h
  · exact hn hi

theorem takeReaction_of_owed_nil (s : State) (r : Reaction) (h : s.boundary.owed = []) : takeReaction s r = s := by
  cases r <;> simp [takeReaction, takeOwed, h]
  exact settle_of_owed_nil s h

theorem foldl_takeReaction_of_owed_nil (xs : List Reaction) (s : State) (h : s.boundary.owed = []) :
    xs.foldl takeReaction s = s := by
  induction xs with
  | nil => rfl
  | cons x xs ih => rw [List.foldl_cons, takeReaction_of_owed_nil s x h, ih]

theorem leftOwed_eq (left : List Reaction) (r : Reaction) :
    leftOwed left r = decide (r ∈ left ∨ r = .trace ∧ Reaction.schedule ∈ left ∨ r = .limit ∧ left ≠ []) := by
  cases r <;> simp [leftOwed]
  cases left <;> simp

theorem leftOwed_nil (r : Reaction) : leftOwed [] r = false := by cases r <;> rfl

/-- A boundary, by what it leaves with every reaction owed. -/
theorem boundaryStep_eq (order left : List Reaction) (s : State) :
    boundaryStep order left s =
      ((order ++ reactions).filter (!leftOwed left ·)).foldl takeReaction (boundaryStep [] reactions s) := by
  have none : ∀ r, leftOwed reactions r = true := fun r => by simp [leftOwed, mem_reactions]
  unfold boundaryStep
  dsimp only
  split
  · simp [none]
  · rw [foldl_takeReaction_of_owed_nil _ _ (settle_owed s)]

theorem boundaryStep_nil (order : List Reaction) (s : State) :
    boundaryStep order [] s = settle (order.foldl takeReaction (boundaryStep [] reactions s)) := by
  rw [boundaryStep_eq]
  simp [leftOwed_nil, foldl_takeReaction_reactions]

theorem takeEvent_or (r : Reaction) (happens : Bool) (s : State) :
    takeEvent r happens s = s ∨ takeEvent r happens s = takeReaction s r := by
  unfold takeEvent; split <;> simp

/-! ## Directives placed -/

theorem placementRefusal_congr {s t : State} (safety : t.safety = s.safety) (latches : t.latches = s.latches)
    (axes : t.axes = s.axes) (links : t.links = s.links) (n : Axis) (action : Action) :
    placementRefusal t n action = placementRefusal s n action := by
  unfold placementRefusal State.latch State.axis State.link; rw [safety, latches, axes, links]

theorem placedInto_congr {s t : State} (f : t.clock.f = s.clock.f) (safety : t.safety = s.safety)
    (latches : t.latches = s.latches) (axes : t.axes = s.axes) (links : t.links = s.links) (d : DirectiveUnit) (n : Axis)
    (action : Action) : placedInto t d n action = placedInto s d n action := by
  unfold placedInto; rw [placementRefusal_congr safety latches axes links, f]

theorem placeDirective_directives (s : State) (n : Axis) (action : Action) :
    (placeDirective s n action).directives = placedInto s s.directives n action := by
  unfold placeDirective placedInto; cases placementRefusal s n action <;> rfl

theorem placeItems_directives (s : State) (items : List DirectiveItem) :
    (placeItems s items).directives = itemsPlaced s s.directives items := by
  have key (xs : List Axis) (t : State) (f : t.clock.f = s.clock.f) (safety : t.safety = s.safety)
      (latches : t.latches = s.latches) (axes : t.axes = s.axes) (links : t.links = s.links) :
      (xs.foldl
          (fun acc n =>
            match items.find? fun item => decide (item.axis = n) with
            | some item => placeDirective acc n item.action
            | none => acc)
          t).directives =
        xs.foldl
          (fun acc n =>
            match items.find? fun item => decide (item.axis = n) with
            | some item => placedInto s acc n item.action
            | none => acc)
          t.directives := by
    induction xs generalizing t with
    | nil => rfl
    | cons x xs ih =>
      simp only [List.foldl_cons]
      cases h : items.find? fun item => decide (item.axis = x) with
      | none => exact ih t f safety latches axes links
      | some item =>
        dsimp only
        rw [ih _ (by simpa using f) (by simpa using safety) (by simpa using latches) (by simpa using axes) (by simpa using links),
          placeDirective_directives, placedInto_congr f safety latches axes links]
  exact key _ s rfl rfl rfl rfl rfl

theorem placeAutoReleases_directives (s : State) :
    (placeAutoReleases s).directives =
      ([0, 1, 2, 3] : List Axis).foldl
        (fun d n => if (s.axis n).group.isSome = true then placedInto s d n .release else d) s.directives := by
  have key (xs : List Axis) (t : State) (f : t.clock.f = s.clock.f) (safety : t.safety = s.safety)
      (latches : t.latches = s.latches) (axes : t.axes = s.axes) (links : t.links = s.links) :
      (xs.foldl (fun acc n => if (acc.axis n).group.isSome then placeDirective acc n .release else acc) t).directives =
        xs.foldl (fun d n => if (s.axis n).group.isSome = true then placedInto s d n .release else d) t.directives := by
    induction xs generalizing t with
    | nil => rfl
    | cons x xs ih =>
      have hx : t.axis x = s.axis x := by unfold State.axis; rw [axes]
      simp only [List.foldl_cons, hx]
      by_cases h : (s.axis x).group.isSome = true
      · simp only [h, if_true]
        rw [ih _ (by simpa using f) (by simpa using safety) (by simpa using latches) (by simpa using axes) (by simpa using links),
          placeDirective_directives, placedInto_congr f safety latches axes links]
      · simp only [h]
        exact ih t f safety latches axes links
  exact key _ s rfl rfl rfl rfl rfl

theorem endSegment_directives (s : State) (g : Segment) : (endSegment s g).directives = releasesPlaced s g := by
  unfold endSegment releasesPlaced; dsimp only; split
  · exact placeAutoReleases_directives s
  · rfl

/-! ## The gate -/

theorem gateOpen_congr {s t : State} (queue : t.queue.records = s.queue.records) (holds : t.holds = s.holds)
    (f : t.clock.f = s.clock.f) : gateOpen t = gateOpen s := by
  unfold gateOpen someCounting; simp only [queue, holds, f]

/-- The engine's reaction at an open gate, in ARMED and in DWELL. -/
theorem reactSchedule_waiting (s : State) (open_ : gateOpen s = true)
    (waiting : s.schedule.state = .armed ∨ s.schedule.state = .dwell) : reactSchedule s = takeAtGate s := by
  rcases waiting with h | h <;> simp [reactSchedule, h, reactArmed, reactDwell, open_]

/-- The engine's reaction at a segment's end: the segment is ended, and the gate passed or the dwell entered. -/
theorem reactSchedule_segmentEnd (s : State) (a : ActiveSegment) (running : s.schedule.state = .running)
    (active : s.schedule.active = some a) (end_ : a.record.duration ≤ a.elapsed + 1) :
    reactSchedule s =
      if gateOpen s = true then takeAtGate (endSegment (progress s a) a.record)
      else enterDwell (endSegment (progress s a) a.record) := by
  simp only [reactSchedule, running, reactRunning, active]
  rw [if_neg (by omega)]
  unfold passGate
  rw [gateOpen_congr (s := s) (by simp) (by simp) (by simp)]

/-! ## A segment's start -/

/-- The run record of a segment's start before the start is handed on: a dwell in progress closed, the run state RUNNING. -/
def dwellEnded (s : State) : RunRecord :=
  { (if s.schedule.state = .dwell then (closeDwell s).record else s.record) with state := .running }

/-- The run record after the pending selection: a BANK_EMPTY entry, or its loss, where the selected bank is EMPTY. -/
def selectionRecord (s : State) (r : RunRecord) : RunRecord :=
  match s.road.pendingSelection with
  | none => r
  | some name =>
    if s.road.bank name = .empty then
      if r.exceptions.length < 32 then
        { r with
          exceptions :=
            r.exceptions ++
              [{ kind := .bankEmpty, opened := s.schedule.runFrame, closed := none, axis := none, holder := none
                 cause := some (.bank name) }] }
      else { r with exceptionOverflow := true }
    else r

theorem handEntry_record (s : State) (e : ExceptionEntry) (h : s.runActive = true) :
    (handEntry s e).record =
      if s.record.exceptions.length < 32 then { s.record with exceptions := s.record.exceptions ++ [e] }
      else { s.record with exceptionOverflow := true } := by
  unfold handEntry placeEntry Config.exceptionCapacity; rw [if_pos h]; split <;> rfl

theorem applySelection_record (s : State) (h : s.runActive = true) :
    (applySelection s).record = selectionRecord s s.record := by
  unfold applySelection selectionRecord
  cases s.road.pendingSelection with
  | none => rfl
  | some name =>
    dsimp only
    cases s.road.bank name <;> simp
    exact handEntry_record _ _ h

theorem applySelection_road (s : State) :
    (applySelection s).road =
      match s.road.pendingSelection, s.road.bankA, s.road.bankB with
      | some .a, .loaded c, other => { bankA := .active c, bankB := other.standDown, pendingSelection := none }
      | some .b, other, .loaded c => { bankA := other.standDown, bankB := .active c, pendingSelection := none }
      | _, _, _ => { s.road with pendingSelection := none } := by
  unfold applySelection
  rcases hr : s.road with ⟨a, b, selection⟩
  cases selection with
  | none => simp [hr]
  | some name =>
    cases name <;> cases a <;> cases b <;> simp [RoadLoad.bank, RoadLoad.setBank, otherBank, Bank.standDown]

theorem handStart_directives (s : State) (g : Segment) :
    (handStart s g).directives = itemsPlaced s s.directives g.directives := by
  have h : (placeItems (applySelection s) g.directives).directives = itemsPlaced s s.directives g.directives := by
    rw [placeItems_directives]
    unfold itemsPlaced
    simp only [applySelection_keeps]
    congr 1
    funext acc n
    split
    · exact placedInto_congr (by simp) (by simp) (by simp) (by simp) (by simp) _ _ _
    · rfl
  unfold handStart; dsimp only; split <;> simp [h]

theorem handStart_road (s : State) (g : Segment) : (handStart s g).road = (applySelection s).road := by
  unfold handStart; dsimp only; split <;> simp

theorem handStart_lines (s : State) (g : Segment) :
    (handStart s g).clock = { s.clock with lines := (g.phase.map (·.lines)).getD s.clock.lines } := by
  unfold handStart; cases g.phase <;> simp [driveLines]

theorem handStart_record (s : State) (g : Segment) (h : s.runActive = true) :
    (handStart s g).record =
      match g.phase with
      | none => selectionRecord s s.record
      | some p =>
        if (selectionRecord s s.record).phases.length < 16 then
          { selectionRecord s s.record with
            phases :=
              (selectionRecord s s.record).phases ++
                [{ phase := p.number, segment := g.number, runFrame := s.schedule.runFrame
                   distance := s.schedule.distance / 3600 }] }
        else { selectionRecord s s.record with phaseOverflow := true } := by
  unfold handStart
  cases g.phase with
  | none => simp [applySelection_record s h]
  | some p =>
    simp only [placePhase, Config.phaseCapacity]
    simp [applySelection_record s h]
    split <;> rfl

/-- What a segment's start leaves, field by field; the other fields stay (`startSegment_keeps`). -/
theorem startSegment_eq (s : State) (g : Segment) (rest : List Segment) (hq : s.queue.records = g :: rest) :
    let t := startSegment s g
    t.queue = { s.queue with records := rest, low := decide (rest.length ≤ s.queue.lowWaterMark) } ∧
    t.schedule =
      { s.schedule with
        state := .running
        active := some { record := g, startSpeed := s.schedule.virtualSpeed, startFrame := s.clock.f, elapsed := 0 }
        distance := s.schedule.distance + (s.schedule.virtualSpeed * ((s.clock.n : Int) + 1)).toNat
        dwellCount := 0
        startFrame := some (s.schedule.startFrame.getD s.clock.f)
        currentPhase := match g.phase with
          | some p => some p.number
          | none => s.schedule.currentPhase } ∧
    t.clock = { s.clock with lines := (g.phase.map (·.lines)).getD s.clock.lines } ∧
    t.road = (applySelection s).road ∧
    t.directives = itemsPlaced s s.directives g.directives ∧
    t.record =
      match g.phase with
      | none => selectionRecord s (dwellEnded s)
      | some p =>
        if (selectionRecord s (dwellEnded s)).phases.length < 16 then
          { selectionRecord s (dwellEnded s) with
            phases :=
              (selectionRecord s (dwellEnded s)).phases ++
                [{ phase := p.number, segment := g.number, runFrame := s.schedule.runFrame
                   distance := t.schedule.distance / 3600 }] }
        else { selectionRecord s (dwellEnded s) with phaseOverflow := true } := by
  intro t
  obtain ⟨x, hx, xq, xs, xc, xr, xd, xsafety, xlatches, xaxes, xlinks, xrec⟩ :
      ∃ x : State,
        t = handStart (addDistance (beginSegment (setScheduleState (takeHead x) .running) g)) g ∧ x.queue = s.queue ∧
        x.schedule = s.schedule ∧ x.clock = s.clock ∧ x.road = s.road ∧ x.directives = s.directives ∧
        x.safety = s.safety ∧ x.latches = s.latches ∧ x.axes = s.axes ∧ x.links = s.links ∧
        { x.record with state := .running } = dwellEnded s := by
    refine ⟨if s.schedule.state = .dwell then closeDwell s else s, rfl, ?_⟩
    unfold dwellEnded; split <;> simp
  generalize hb : addDistance (beginSegment (setScheduleState (takeHead x) .running) g) = b at hx
  have schedule :
      b.schedule =
        { s.schedule with
          state := .running
          active := some { record := g, startSpeed := s.schedule.virtualSpeed, startFrame := s.clock.f, elapsed := 0 }
          distance := s.schedule.distance + (s.schedule.virtualSpeed * ((s.clock.n : Int) + 1)).toNat
          dwellCount := 0
          startFrame := some (s.schedule.startFrame.getD s.clock.f)
          currentPhase := match g.phase with
            | some p => some p.number
            | none => s.schedule.currentPhase } := by
    subst hb
    cases phase : g.phase <;> simp [addDistance, beginSegment, ScheduleState.underway, xs, xc, phase]
  have runFrame : b.schedule.runFrame = s.schedule.runFrame := by rw [schedule]
  have active : b.runActive = true := by unfold State.runActive; rw [schedule]; rfl
  have road : b.road = s.road := by subst hb; simp [xr]
  have record : b.record = dwellEnded s := by rw [← xrec]; subst hb; simp; rfl
  have selected : selectionRecord b b.record = selectionRecord s (dwellEnded s) := by
    unfold selectionRecord; rw [road, runFrame, record]
  refine ⟨?_, ?_, ?_, ?_, ?_, ?_⟩
  · rw [hx]; subst hb; simp [takeHead, xq, hq, Queue.withLow]
  · rw [hx]; simp [schedule]
  · have clock : b.clock = s.clock := by subst hb; simp [xc]
    rw [hx, handStart_lines, clock]
  · rw [hx, handStart_road, applySelection_road, applySelection_road, road]
  · have directives : b.directives = s.directives := by subst hb; simp [xd]
    rw [hx, handStart_directives, directives]
    unfold itemsPlaced; congr 1; funext acc n
    split
    · exact placedInto_congr (by subst hb; simp [xc]) (by subst hb; simp [xsafety]) (by subst hb; simp [xlatches])
        (by subst hb; simp [xaxes]) (by subst hb; simp [xlinks]) _ _ _
    · rfl
  · have same : t.schedule = b.schedule := by rw [hx]; simp
    rw [same, hx, handStart_record b g active, selected, runFrame]

/-! ## Directives considered -/

/-- The end of a slip touches the run record alone. -/
theorem closeSlip_eq (s : State) (n : Axis) : closeSlip s n = { s with record := (closeSlip s n).record } := by
  unfold closeSlip closeEntry; dsimp only; split <;> rfl

theorem pendingRelease_eq (s : State) (n : Axis) :
    pendingRelease s n = decide ((s.slot n).pending.map (fun d => d.action) = some .release) := by
  unfold pendingRelease; cases (s.slot n).pending <;> simp

theorem guardsAllow_iff (s : State) (n : Axis) (action : Action) :
    guardsAllow s n action = true ↔ ∀ e : Nat, earliestFrame s n action = some e → e ≤ s.clock.f := by
  unfold guardsAllow; cases earliestFrame s n action <;> simp


/-! ## A comparison -/

/-- What a comparison finds (R188): the members in ROAD on UP links with a measurement, their mean against the speed. -/
theorem traceOutside_eq (w : State) :
    let members : List Axis :=
      [0, 1, 2, 3].filter fun n =>
        decide ((w.axis n).mode = .road ∧ (w.link n).state = .up ∧ (w.axis n).measuredSpeed.isSome = true)
    let mean : Int := (members.map fun n => (w.axis n).measuredSpeed.getD 0).sum.tdiv members.length
    traceOutside w =
      if (w.trace.leftState = .running ∨ w.trace.leftState = .dwell) ∧ members ≠ [] then
        some (decide (w.trace.tolerance < ((mean - w.trace.leftSpeed).natAbs : Int)))
      else none := by
  intro members mean
  have same : comparisonSet w = members := by
    unfold comparisonSet; congr 1; funext n; simp [Bool.and_assoc]
  unfold traceOutside
  cases e : w.trace.leftState <;> simp only [reduceCtorEq, or_self, or_true, true_or, true_and, false_and, if_false]
  all_goals
    rw [same]
    cases list : members with
    | nil => simp
    | cons i is =>
      have total : mean = Machine.mean ((i :: is).map (ownSpeed w)) := by
        simp only [mean, list, Machine.mean, List.length_map]; rfl
      simp only [total, ne_eq, reduceCtorEq, not_false_eq_true, if_true]

end Sys2Proof.Machine
end

