-- ==== Sys2Proof/Laws/Layouts.lean ====
section
/-!
SUPPORT. The byte layouts of spec/12: what the fields of a message, an answer, a POLL and a segment record are in the terms of
`fieldBytes` and `answerBytes`, and the check word bit by bit.
-/
namespace Sys2Proof.Machine
open Sys2Proof

/-! ## Fields -/

theorem fieldBytes_one (x : Int) : fieldBytes 1 x = [BitVec.ofInt 8 x] := by
  simp [fieldBytes, List.range_succ]

theorem fieldBytes_one_nat (n : Nat) : fieldBytes 1 (n : Int) = [byteOf n] := by
  simp [fieldBytes_one, byteOf]

theorem fieldBytes_two (x : Int) : fieldBytes 2 x = bytes16 x := by
  have h : (x.emod 65536).toNat = (BitVec.ofInt 16 x).toNat := by simp [BitVec.toNat_ofInt]; rfl
  simp only [fieldBytes, bytes16, byteOf, h, List.range_succ, List.range_zero, List.nil_append, List.cons_append, List.reverse_cons,
    List.reverse_nil, List.map_cons, List.map_nil]
  generalize BitVec.ofInt 16 x = w
  congr 1
  · apply BitVec.eq_of_toNat_eq; simp [Nat.shiftRight_eq_div_pow]

theorem fieldBytes_four (n : Nat) : fieldBytes 4 (n : Int) = bytes32 n := by
  simp only [fieldBytes, bytes32, byteOf, List.range_succ, List.range_zero, List.nil_append, List.cons_append, List.reverse_cons,
    List.reverse_nil, List.map_cons, List.map_nil]
  congr 1
  · apply BitVec.eq_of_toNat_eq; simp [Nat.shiftRight_eq_div_pow]; omega
  congr 1
  · apply BitVec.eq_of_toNat_eq; simp [Nat.shiftRight_eq_div_pow]; omega
  congr 1
  · apply BitVec.eq_of_toNat_eq; simp [Nat.shiftRight_eq_div_pow]; omega
  congr 1
  · apply BitVec.eq_of_toNat_eq; simp

/-- The bytes of an answer whose body the manual lays out. -/
theorem Answer.bytes_eq (a : Answer) (body : List Byte) (h : a.body.bytes = some body) :
    a.bytes = some (answerBytes a.address a.kind a.code.value a.frame body) := by
  have length : (byteOf a.code.value :: (bytes32 a.frame ++ body)).length = 5 + body.length := by simp [bytes32]; omega
  simp only [Answer.bytes, h, Option.map_some, answerBytes, length, fieldBytes_one_nat, fieldBytes_two, fieldBytes_four,
    List.cons_append, List.nil_append, List.append_assoc]

/-- The check word, bit by bit. -/
theorem crc_bits (bytes : List Byte) :
    crc bytes =
      (bytes.flatMap fun b => [7, 6, 5, 4, 3, 2, 1, 0].map fun i : Nat => b.getLsbD i).foldl crcBit 0xFFFF#16 := by
  simp only [crc, List.foldl_flatMap, List.foldl_map]; rfl

theorem crcBit_eq (r : BitVec 16) (bit : Bool) :
    crcBit r bit = if r.msb = bit then r <<< 1 else (r <<< 1) ^^^ 0x1021#16 := by
  unfold crcBit; cases bit <;> cases h : r.msb <;> simp_all [BitVec.msb_eq_getLsbD_last]

theorem byteOf_toNat (b : Byte) : byteOf b.toNat = b := by simp [byteOf]

theorem toNat_byteOf (n : Nat) (h : n < 256) : (byteOf n).toNat = n := by simp [byteOf]; omega

theorem bytes16_eq (x : Int) : bytes16 x = [byteOf ((x % 65536).toNat / 256), byteOf (x % 65536).toNat] := rfl

theorem bytes16_fieldOf (a b : Byte) : bytes16 (fieldOf [a, b] : Nat) = [a, b] := by
  have ha := a.isLt; have hb := b.isLt
  simp only [bytes16_eq, fieldOf_two, byteOf]
  congr 1
  · apply BitVec.eq_of_toNat_eq; simp only [BitVec.toNat_ofNat]; omega
  congr 1
  · apply BitVec.eq_of_toNat_eq; simp only [BitVec.toNat_ofNat]; omega

theorem bytes16_signed16 (n : Nat) : bytes16 (signed16 n) = bytes16 (n : Int) := by
  have h : (n : Int) - 65536 ≡ n [ZMOD 65536] := by simp [Int.modEq_iff_dvd]
  simp only [bytes16_eq, signed16]; split
  · rfl
  · rw [h.eq]

theorem bytes32_fieldOf (a b c d : Byte) : bytes32 (fieldOf [a, b, c, d]) = [a, b, c, d] := by
  have ha := a.isLt; have hb := b.isLt; have hc := c.isLt; have hd := d.isLt
  simp only [bytes32, fieldOf, byteOf, List.foldl_cons, List.foldl_nil]
  congr 1
  · apply BitVec.eq_of_toNat_eq; simp only [BitVec.toNat_ofNat]; omega
  congr 1
  · apply BitVec.eq_of_toNat_eq; simp only [BitVec.toNat_ofNat]; omega
  congr 1
  · apply BitVec.eq_of_toNat_eq; simp only [BitVec.toNat_ofNat]; omega
  congr 1
  · apply BitVec.eq_of_toNat_eq; simp only [BitVec.toNat_ofNat]; omega

theorem fieldBytes_signed8 (b : Byte) : fieldBytes 1 (signed8 b.toNat) = [b] := by
  rw [fieldBytes_one]; congr 1
  apply BitVec.eq_of_toNat_eq
  have := b.isLt
  simp only [signed8, BitVec.toNat_ofInt]; split <;> omega

theorem fieldOf_bytes16 (n : Nat) (h : n < 65536) : fieldOf (bytes16 n) = n := by
  simp only [bytes16_eq, fieldOf_two, byteOf, BitVec.toNat_ofNat]; omega

theorem signed16_bytes16 (x : Int) (h : -32768 ≤ x ∧ x ≤ 32767) : signed16 (fieldOf (bytes16 x)) = x := by
  simp only [bytes16_eq, fieldOf_two, byteOf, signed16, BitVec.toNat_ofNat]
  split <;> omega

theorem fieldOf_bytes32 (n : Nat) (h : n < 4294967296) : fieldOf (bytes32 n) = n := by
  simp only [bytes32, fieldOf, byteOf, List.foldl_cons, List.foldl_nil, BitVec.toNat_ofNat]; omega

theorem signed8_ofInt (x : Int) (h : -128 ≤ x ∧ x ≤ 127) : signed8 (BitVec.ofInt 8 x).toNat = x := by
  simp only [signed8, BitVec.toNat_ofInt]; split <;> omega

theorem signed8_range (b : Byte) : -128 ≤ signed8 b.toNat ∧ signed8 b.toNat ≤ 127 := by
  have := b.isLt
  simp only [signed8]; split <;> omega

theorem axisOf_eq_some (k : Nat) (n : Axis) : axisOf k = some n ↔ k = n.val := by
  unfold axisOf; split
  · simp [Fin.ext_iff]
  · have := n.isLt; simp; omega

/-- The byte of a drive status. -/
def DriveStatus.value (x : DriveStatus) : Nat :=
  match x with
  | .ready => 0
  | .limited => 1
  | .fault => 2
  | .brakeSet => 3

theorem statusOf_eq_some (k : Nat) (x : DriveStatus) : statusOf k = some x ↔ k = x.value := by
  unfold statusOf
  split <;> cases x <;> simp_all [DriveStatus.value]

theorem pollTail_eq_some (has : Bool) (status : DriveStatus) (rest : List Byte) (d : Option Int) (c : Option Byte) :
    pollTail has status rest = some (d, c) ↔
      rest = (match d with
        | some d => fieldBytes 1 d
        | none => []) ++ c.toList ∧ d.isSome = has ∧ (∀ x ∈ d, -128 ≤ x ∧ x ≤ 127) ∧ (c.isSome = true ↔ status = .fault) := by
  constructor
  · intro h
    unfold pollTail at h
    split at h <;> simp_all <;> obtain ⟨rfl, rfl⟩ := h <;> simp [fieldBytes_signed8, signed8_range]
  · rintro ⟨rfl, rfl, hd, hc⟩
    cases d with
    | none => cases c <;> simp at hc <;> simp [pollTail, hc]
    | some d =>
      have hd := signed8_ofInt d (hd d rfl)
      cases c <;> simp only [Option.isSome_none, Option.isSome_some, true_iff, Bool.false_eq_true, false_iff] at hc <;>
        simp only [pollTail, hc, fieldBytes_one, hd, Option.isSome_some, List.cons_append, List.nil_append, Option.toList,
          decide_true, decide_false]

theorem pollFields_eq_some (payload : List Byte) (p : PollFields) :
    pollFields payload = some p ↔
      payload =
        fieldBytes 1 (p.axis.val : Int) ++ fieldBytes 4 (p.sampleFrame : Int) ++ fieldBytes 2 p.speed ++
          fieldBytes 1 (p.status.value : Int) ++
          (match p.temperature with
            | some d => fieldBytes 1 1 ++ fieldBytes 1 d
            | none => fieldBytes 1 0) ++ p.faultCode.toList ∧
      p.sampleFrame < 4294967296 ∧ (-32768 ≤ p.speed ∧ p.speed ≤ 32767) ∧ (∀ d ∈ p.temperature, -128 ≤ d ∧ d ≤ 127) ∧
      (p.faultCode.isSome = true ↔ p.status = .fault) := by
  constructor
  · intro h
    unfold pollFields at h
    split at h
    case h_2 => simp at h
    rename_i a s3 s2 s1 s0 v1 v0 st flags rest
    split at h
    case h_2 => simp at h
    rename_i axis status ha hs
    split at h
    case isFalse => simp at h
    rename_i hf
    simp only [Option.map_eq_some_iff] at h
    obtain ⟨⟨d, c⟩, ht, rfl⟩ := h
    rw [axisOf_eq_some] at ha
    rw [statusOf_eq_some] at hs
    rw [pollTail_eq_some] at ht
    obtain ⟨rfl, hflag, hd, hc⟩ := ht
    have h32 := bytes32_fieldOf s3 s2 s1 s0
    have h16 := bytes16_fieldOf v1 v0
    have b1 := s3.isLt; have b2 := s2.isLt; have b3 := s1.isLt; have b4 := s0.isLt; have b5 := v1.isLt; have b6 := v0.isLt
    refine ⟨?_, ?_, ?_, hd, hc⟩
    · dsimp only
      rw [fieldBytes_four, fieldBytes_two, bytes16_signed16, h16, h32, fieldBytes_one_nat, fieldBytes_one_nat, ← ha, ← hs,
        byteOf_toNat, byteOf_toNat]
      have hflags : [flags] = fieldBytes 1 (if d.isSome then 1 else 0) := by
        rw [fieldBytes_one]; congr 1
        apply BitVec.eq_of_toNat_eq
        have := flags.isLt
        rw [hflag]
        by_cases h1 : flags.toNat = 1
        · simp [h1]
        · have : flags.toNat = 0 := by omega
          simp [this]
      cases d <;> simp at hflags <;> simp [← hflags]
    · simp only [fieldOf, List.foldl_cons, List.foldl_nil]; omega
    · simp only [fieldOf_two, signed16]; split <;> omega
  · rcases p with ⟨n, f, v, d, status, c⟩
    rintro ⟨rfl, hf, hv, hd, hc⟩
    dsimp only at *
    have ht := (pollTail_eq_some d.isSome status _ d c).mpr ⟨rfl, rfl, hd, hc⟩
    have h32 := fieldOf_bytes32 f hf
    have h16 := signed16_bytes16 v hv
    have hn : axisOf (byteOf n.val).toNat = some n := (axisOf_eq_some _ n).mpr (toNat_byteOf _ (by have := n.isLt; omega))
    have hs : statusOf (byteOf status.value).toNat = some status :=
      (statusOf_eq_some _ status).mpr (toNat_byteOf _ (by cases status <;> decide))
    have flag0 : fieldBytes 1 0 = [0#8] := by decide
    have flag1 : fieldBytes 1 1 = [1#8] := by decide
    simp only [bytes32] at h32
    simp only [bytes16] at h16
    cases d <;>
    · simp only [fieldBytes_four, fieldBytes_two, fieldBytes_one_nat, flag0, flag1, bytes32, bytes16, List.cons_append, List.nil_append,
        pollFields, h32, h16, hn, hs]
      simp only [List.nil_append, Option.isSome_none, Option.isSome_some] at ht
      simp [ht]

/-! ## Segment records -/

/-- The bytes of a record between its form byte and its check. -/
def RawRecord.fields (r : RawRecord) : List Byte :=
  (if r.form % 4 = 1 then fieldBytes 2 (r.target : Int) else []) ++
    (if r.form % 4 = 1 ∨ r.form % 4 = 2 then fieldBytes 2 (r.duration : Int) else []) ++
    (match r.phase with
      | some p => fieldBytes 1 (p : Int)
      | none => []) ++
    r.directives.flatMap fun d : Nat => fieldBytes 1 (d : Int)

theorem bytes16_cases (xs : List Byte) (h : xs.length = 2) : fieldBytes 2 (fieldOf xs : Nat) = xs ∧ fieldOf xs < 65536 := by
  obtain ⟨a, b, rfl⟩ := List.length_eq_two.mp h
  have := a.isLt; have := b.isLt
  exact ⟨by rw [fieldBytes_two, bytes16_fieldOf], by rw [fieldOf_two]; omega⟩

theorem fieldOf_fieldBytes (n : Nat) (h : n < 65536) : fieldOf (fieldBytes 2 (n : Int)) = n := by
  rw [fieldBytes_two, fieldOf_bytes16 n h]

theorem flatMap_fieldBytes (xs : List Byte) : ((xs.map (·.toNat)).flatMap fun d : Nat => fieldBytes 1 (d : Int)) = xs := by
  induction xs with
  | nil => rfl
  | cons x xs ih => rw [List.map_cons, List.flatMap_cons, ih, fieldBytes_one_nat, byteOf_toNat, List.singleton_append]

theorem map_toNat_flatMap (xs : List Nat) (h : ∀ d ∈ xs, d < 256) :
    (xs.flatMap fun d : Nat => fieldBytes 1 (d : Int)).map (·.toNat) = xs := by
  induction xs with
  | nil => rfl
  | cons x xs ih =>
    rw [List.flatMap_cons, fieldBytes_one_nat, List.singleton_append, List.map_cons, ih fun d hd => h d (by simp [hd]),
      toNat_byteOf x (h x (by simp))]

theorem length_flatMap_fieldBytes (xs : List Nat) : (xs.flatMap fun d : Nat => fieldBytes 1 (d : Int)).length = xs.length := by
  induction xs with
  | nil => rfl
  | cons x xs ih => rw [List.flatMap_cons, fieldBytes_one_nat, List.singleton_append, List.length_cons, ih, List.length_cons]

theorem length_fieldBytes (k : Nat) (x : Int) : (fieldBytes k x).length = k := by simp [fieldBytes]

/-- A two-byte field taken off the front where it is present. -/
theorem field_taken (c : Prop) [Decidable c] (xs : List Byte) (h : c → 2 ≤ xs.length) :
    (if c then fieldBytes 2 ((if c then fieldOf (xs.take 2) else 0 : Nat) : Int) else []) ++ (if c then xs.drop 2 else xs) =
      xs ∧ (if c then (if c then fieldOf (xs.take 2) else 0) < 65536 else (if c then fieldOf (xs.take 2) else 0) = 0) := by
  by_cases hc : c
  · have := bytes16_cases (xs.take 2) (by simp; exact h hc)
    simp [hc, this]
  · simp [hc]

/-- The phase byte taken off the front where it is present. -/
theorem phase_taken (c : Prop) [Decidable c] (xs : List Byte) (h : c → 1 ≤ xs.length) :
    (match (if c then some (fieldOf (xs.take 1)) else none : Option Nat) with
        | some p => fieldBytes 1 (p : Int)
        | none => []) ++ (if c then xs.drop 1 else xs) = xs ∧
      ∀ p ∈ (if c then some (fieldOf (xs.take 1)) else none : Option Nat), p < 256 := by
  by_cases hc : c
  · cases xs with
    | nil => simp at h; exact absurd hc h
    | cons x xs => simp [hc, fieldOf, fieldBytes_one_nat, byteOf_toNat]; exact x.isLt
  · simp [hc]

theorem walkRecord_eq_some (bytes : List Byte) (r : RawRecord) (rest : List Byte) :
    walkRecord bytes = some (r, rest) ↔
      r.covered = fieldBytes 2 (r.number : Int) ++ fieldBytes 1 (r.form : Int) ++ r.fields ∧
      bytes = r.covered ++ fieldBytes 2 (r.check : Int) ++ rest ∧
      r.number < 65536 ∧ r.form < 256 ∧ r.check < 65536 ∧ (if r.form % 4 = 1 then r.target < 65536 else r.target = 0) ∧
      (if r.form % 4 = 1 ∨ r.form % 4 = 2 then r.duration < 65536 else r.duration = 0) ∧
      (r.phase.isSome = true ↔ r.form / 32 % 2 = 1) ∧ (∀ p ∈ r.phase, p < 256) ∧
      r.directives.length = r.form / 4 % 8 ∧ ∀ d ∈ r.directives, d < 256 := by
  constructor
  · intro h
    unfold walkRecord at h
    split at h
    case h_2 => simp at h
    rename_i n1 n0 fb tail
    dsimp only at h
    split at h
    case isTrue => simp at h
    rename_i hlen
    simp only [Option.some.injEq, Prod.mk.injEq] at h
    obtain ⟨rfl, rfl⟩ := h
    have hform := fb.isLt
    have hfb : fieldBytes 1 (fb.toNat : Int) = [fb] := by rw [fieldBytes_one_nat, byteOf_toNat]
    have hn : fieldBytes 2 (fieldOf [n1, n0] : Nat) = [n1, n0] := (bytes16_cases [n1, n0] rfl).1
    have hcheck := bytes16_cases ((tail.drop (formLength fb.toNat)).take 2) (by simp; omega)
    have hL : (tail.take (formLength fb.toNat)).length = formLength fb.toNat := by simp; omega
    have htail :
        tail.take (formLength fb.toNat) ++ (tail.drop (formLength fb.toNat)).take 2 ++
          tail.drop (formLength fb.toNat + 2) = tail := by
      rw [List.append_assoc, ← List.drop_drop, List.take_append_drop, List.take_append_drop]
    generalize hF : tail.take (formLength fb.toNat) = F at *
    unfold formLength at hL
    have t1 := field_taken (fb.toNat % 4 = 1) F (by intro; simp_all; omega)
    have t2 := field_taken (fb.toNat % 4 = 1 ∨ fb.toNat % 4 = 2) (if fb.toNat % 4 = 1 then F.drop 2 else F) (by
      rintro (h | h) <;> simp_all <;> omega)
    have t3 := phase_taken (fb.toNat / 32 % 2 = 1)
      (if fb.toNat % 4 = 1 ∨ fb.toNat % 4 = 2 then (if fb.toNat % 4 = 1 then F.drop 2 else F).drop 2
        else (if fb.toNat % 4 = 1 then F.drop 2 else F)) (by
        intro h; split_ifs at * <;> simp_all <;> omega)
    refine ⟨?_, ?_, (bytes16_cases [n1, n0] rfl).2, hform, hcheck.2, t1.2, t2.2, ?_, t3.2, ?_, ?_⟩
    · dsimp only [RawRecord.fields]
      rw [hfb, hn, flatMap_fieldBytes]
      simp only [List.append_assoc]
      rw [t3.1, t2.1, t1.1]
      rfl
    · dsimp only
      rw [hcheck.1]
      simp only [List.cons_append, List.append_assoc, List.cons.injEq, true_and]
      rw [← List.append_assoc, htail]
    · dsimp only; split_ifs <;> simp_all
    · dsimp only; simp only [List.length_map]; split_ifs at * <;> simp_all
    · dsimp only; intro d hd; simp only [List.mem_map] at hd; obtain ⟨b, -, rfl⟩ := hd; exact b.isLt
  · rintro ⟨hcov, rfl, hnum, hform, hcheck, ht, hd, hp, hp2, hcount, hdir⟩
    have hlen : r.fields.length = formLength r.form := by
      simp only [RawRecord.fields, formLength, List.length_append, length_flatMap_fieldBytes, hcount]
      congr 1
      cases hph : r.phase with
      | none => simp [hph] at hp; split_ifs <;> simp_all [length_fieldBytes]
      | some p => simp [hph] at hp; split_ifs <;> simp_all [length_fieldBytes]
    obtain ⟨n1, n0, hn⟩ := List.length_eq_two.mp (length_fieldBytes 2 (r.number : Int))
    have hbytes : r.covered ++ fieldBytes 2 (r.check : Int) ++ rest =
        n1 :: n0 :: byteOf r.form :: (r.fields ++ (fieldBytes 2 (r.check : Int) ++ rest)) := by
      rw [hcov, hn, fieldBytes_one_nat]; simp
    have hf := toNat_byteOf r.form hform
    have htake : (r.fields ++ (fieldBytes 2 (r.check : Int) ++ rest)).take (formLength r.form) = r.fields := by
      rw [← hlen]; simp
    have hdrop :
        (r.fields ++ (fieldBytes 2 (r.check : Int) ++ rest)).drop (formLength r.form) =
          fieldBytes 2 (r.check : Int) ++ rest := by
      rw [← hlen]; simp
    have hdrop2 : (r.fields ++ (fieldBytes 2 (r.check : Int) ++ rest)).drop (formLength r.form + 2) = rest := by
      rw [← List.drop_drop, hdrop]; exact List.drop_left' (length_fieldBytes 2 _)
    have hct : (fieldBytes 2 (r.check : Int) ++ rest).take 2 = fieldBytes 2 (r.check : Int) :=
      List.take_left' (length_fieldBytes 2 _)
    rw [hbytes]
    unfold walkRecord
    dsimp only
    rw [hf, htake, hdrop, hdrop2, hct, fieldOf_fieldBytes _ hcheck, ← hn, fieldOf_fieldBytes _ hnum,
      if_neg (by simp [hlen, length_fieldBytes]; omega)]
    have hcov' : r.covered = n1 :: n0 :: byteOf r.form :: r.fields := by rw [hcov, hn, fieldBytes_one_nat]; rfl
    congr 2
    rcases r with ⟨number, form, target, duration, phase, directives, check, covered⟩
    dsimp only [RawRecord.fields] at *
    simp only [RawRecord.mk.injEq, true_and, hcov', and_true]
    have tk2 (x : Int) (ys : List Byte) : (fieldBytes 2 x ++ ys).take 2 = fieldBytes 2 x := List.take_left' (length_fieldBytes 2 _)
    have dr2 (x : Int) (ys : List Byte) : (fieldBytes 2 x ++ ys).drop 2 = ys := List.drop_left' (length_fieldBytes 2 _)
    have tk1 (p : Nat) (h : p < 256) (ys : List Byte) : fieldOf ((fieldBytes 1 (p : Int) ++ ys).take 1) = p := by
      simp [fieldBytes_one_nat, fieldOf, toNat_byteOf p h]
    have dr1 (x : Int) (ys : List Byte) : (fieldBytes 1 x ++ ys).drop 1 = ys := List.drop_left' (length_fieldBytes 1 _)
    have hm := map_toNat_flatMap directives hdir
    have two : ¬ (2 : Nat) = 1 := by decide
    cases phase with
    | none =>
      have h32 : ¬ form / 32 % 2 = 1 := by simpa using hp
      by_cases k1 : form % 4 = 1
      · simp only [k1, h32, if_true, if_false, true_or, List.append_assoc, List.nil_append, tk2, dr2, hm, and_true]
          at ht hd ⊢
        exact ⟨fieldOf_fieldBytes _ ht, fieldOf_fieldBytes _ hd⟩
      · by_cases k2 : form % 4 = 2
        · simp only [k2, two, h32, if_true, if_false, or_true, List.append_assoc, tk2, dr2, List.nil_append, hm, and_true]
            at ht hd ⊢
          exact ⟨ht.symm, fieldOf_fieldBytes _ hd⟩
        · simp only [k1, k2, h32, if_false, or_self, List.nil_append, hm, and_true] at ht hd ⊢
          exact ⟨ht.symm, hd.symm⟩
    | some p =>
      have h32 : form / 32 % 2 = 1 := by simpa using hp
      have hp1 := hp2 p rfl
      by_cases k1 : form % 4 = 1
      · simp only [k1, h32, if_true, true_or, List.append_assoc, tk2, dr2, tk1 p hp1, dr1, hm, and_true] at ht hd ⊢
        exact ⟨fieldOf_fieldBytes _ ht, fieldOf_fieldBytes _ hd⟩
      · by_cases k2 : form % 4 = 2
        · simp only [k2, two, h32, if_true, if_false, or_true, List.append_assoc, tk2, dr2, List.nil_append, tk1 p hp1, dr1, hm,
            and_true] at ht hd ⊢
          exact ⟨ht.symm, fieldOf_fieldBytes _ hd⟩
        · simp only [k1, k2, h32, if_true, if_false, or_self, List.nil_append, tk1 p hp1, dr1, hm, and_true]
            at ht hd ⊢
          exact ⟨ht.symm, hd.symm⟩

/-! ## The checks of a record -/

/-- Check b of R24 in the bits of R200's layout. -/
theorem recordWellFormed_iff (r : RawRecord) :
    RecordWellFormed r ↔
      r.form % 4 ≠ 0 ∧ r.form < 128 ∧ r.form / 4 % 8 ≤ 4 ∧
        (r.form % 4 = 3 → r.phase = none ∧ r.directives = [] ∧ r.form / 64 % 2 = 0) ∧
        (∀ d ∈ r.directives, d < 64 ∧ (d / 4 % 4 = 1 ∧ d / 16 % 4 ≠ 0 ∨ d / 4 % 4 = 2 ∧ d / 16 % 4 = 0)) ∧
        (r.directives.map fun d => d % 4).Nodup := by
  have item (d : Nat) : d / 64 = 0 ↔ d < 64 := by omega
  have high (d : Nat) : d / 128 = 0 ↔ d < 128 := by omega
  have axes : (r.directives.map itemAxis).Nodup ↔ (r.directives.map fun d => d % 4).Nodup := by
    have : (r.directives.map fun d => d % 4) = (r.directives.map itemAxis).map Fin.val := by simp [itemAxis]
    rw [this, List.nodup_map_iff Fin.val_injective]
  have auto : ¬ r.form / 64 % 2 = 1 ↔ r.form / 64 % 2 = 0 := by omega
  simp only [RecordWellFormed, ItemWellFormed, RawRecord.kindBits, RawRecord.autoRelease, axes, item, high,
    decide_eq_false_iff_not, auto]

/-- Check c of R24 in the bits of R200's layout. -/
theorem recordInRange_iff (r : RawRecord) :
    RecordInRange r ↔
      (1 ≤ r.number ∧ r.number ≤ 65535) ∧ r.target ≤ 20000 ∧
        (r.form % 4 ≠ 3 → 1 ≤ r.duration ∧ r.duration ≤ 60000) ∧ (∀ p ∈ r.phase, p / 16 ≠ 0 ∧ p % 16 ≠ 0) ∧
        ∀ d ∈ r.directives, d / 4 % 4 = 1 → d / 16 % 4 ≠ 3 := by
  simp only [RecordInRange, RawRecord.kindBits, and_assoc]

end Sys2Proof.Machine
end

