-- ==== Sys2Proof/WellFormed.lean ====
section
/-!
DEFINITION. Which commands can come about at all: a payload is at most 240 bytes (R191); a message is an unknown request, or
is ignored, only by its kind and address (R192, R195); a reaction is taken once at a boundary (R3). The machine gives every
command a meaning, well-formed or not.
-/
namespace Sys2Proof

/-- A payload fits the message frame (R191). -/
abbrev PayloadFits (payload : List Byte) : Prop := payload.length ≤ 240

/-- A command that can come about. -/
def Instr.wellFormed (i : Instr) : Bool :=
  match i with
  | .append _ payload => decide (PayloadFits payload)
  | .loadBlock _ payload => decide (PayloadFits payload)
  | .hello _ _ payload => decide (PayloadFits payload)
  | .poll _ _ payload => decide (PayloadFits payload)
  | .lockAcquired _ _ payload => decide (PayloadFits payload)
  | .slipPersist _ _ payload => decide (PayloadFits payload)
  | .unknownRequest p address kind => Machine.portTakes p address && !Machine.linkCarries p kind
  | .addressIgnored p address => !Machine.portTakes p address
  | .frameBoundary order left => decide ((order ++ left).Nodup)
  | .setClock _ _ => true
  | .clockStart _ _ => true
  | .clockHalt _ _ => true
  | .reset _ _ => true
  | .flush _ _ => true
  | .startRun _ _ => true
  | .abortRun _ _ => true
  | .closeRun _ _ => true
  | .setRun _ _ => true
  | .hold _ _ => true
  | .release _ _ => true
  | .releaseHolder _ _ => true
  | .setAxis _ _ => true
  | .setSync _ _ => true
  | .readAxis _ _ => true
  | .couple _ _ => true
  | .setGuards _ _ => true
  | .setBands _ _ => true
  | .setLoss _ _ => true
  | .loadBank _ _ => true
  | .selectBank _ _ => true
  | .setLinks _ _ => true
  | .readFault _ _ => true
  | .clearFault _ _ => true
  | .ackSafeStop _ _ => true
  | .readRecord _ _ => true
  | .status _ _ => true
  | .snapshot _ _ => true
  | .preview _ _ => true
  | .badCheckDiscard _ => true
  | .lineBreak _ => true
  | .tear _ => true
  | .answerSent _ => true
  | .lineIdle _ => true
  | .byteArrival _ _ => true
  | .frameMarkEnd => true
  | .phaseLineHoldEnd => true
  | .frameLimit => true
  | .segmentEnd => true
  | .segmentStart => true
  | .endTaken => true
  | .dwellLimit => true
  | .stopComplete => true
  | .holdExpiry => true
  | .linkTimeout _ => true
  | .applyEngage _ => true
  | .applyRelease _ => true
  | .traceDeviation => true
  | .safeStopAssert => true
  | .safeStopDeassert => true
  | .resetLineAssert => true
  | .resetLineRelease _ => true
  | .powerOn _ => true

end Sys2Proof
end

