-- ==== Sys2Proof/Tests/Slice0.lean ====
section
/-!
SUPPORT. The model's own tests: ill-formed commands that the check refuses, one step here and there on small states, and for
every obligation with hypotheses a witness that states and operands meet them, clause by clause where it has several.
-/
namespace Sys2Proof.Tests
set_option Elab.async false
open Sys2Proof Sys2Proof.Machine

/-! ## Commands that cannot come about -/

theorem test_append_tooLong : (Instr.append .supervisor (List.replicate 241 0#8)).wellFormed = false := by
  decide +kernel
theorem test_loadBlock_tooLong : (Instr.loadBlock .supervisor (List.replicate 241 0#8)).wellFormed = false := by
  decide +kernel
theorem test_hello_tooLong : (Instr.hello 0 0 (List.replicate 241 0#8)).wellFormed = false := by
  decide +kernel
theorem test_poll_tooLong : (Instr.poll 0 0 (List.replicate 241 0#8)).wellFormed = false := by
  decide +kernel
theorem test_lockAcquired_tooLong : (Instr.lockAcquired 0 0 (List.replicate 241 0#8)).wellFormed = false := by
  decide +kernel
theorem test_slipPersist_tooLong : (Instr.slipPersist 0 0 (List.replicate 241 0#8)).wellFormed = false := by
  decide +kernel
theorem test_unknownRequest_otherAddress : (Instr.unknownRequest .supervisory 0x21#8 0x70#8).wellFormed = false := by decide
theorem test_unknownRequest_carriedKind : (Instr.unknownRequest .supervisory 0x10#8 0x01#8).wellFormed = false := by decide
theorem test_addressIgnored_takenAddress : (Instr.addressIgnored (.drive 2) 0x31#8).wellFormed = false := by decide
theorem test_frameBoundary_twice : (Instr.frameBoundary [.holds] [.holds]).wellFormed = false := by decide
theorem test_wellFormed_boundary : (Instr.append .supervisor (List.replicate 240 0#8)).wellFormed = true := by
  decide +kernel

/-! ## States to test on -/

/-- The state a command leaves. -/
def after (c : Instr) (s : State) : State :=
  match exec c s with
  | .next t => t
  | .fault _ => s
  | .refused _ => s

/-- IDLE, HALTED, the safety latch NORMAL. -/
def quiet : State := { State.atReset false with safety := .normal }

/-- The same with the clock RUNNING at F = 100. -/
def turning : State := { quiet with clock := { quiet.clock with state := .running, position := some 0, f := 100 } }

/-- The schedule in a state, the run record showing it. -/
def inRun (x : ScheduleState) : State :=
  { turning with
    schedule := { turning.schedule with state := x }
    record := { turning.record with state := x.runState .none } }

/-- A reaction owed at boundary 100, which found the run active. -/
def owing (r : Reaction) (s : State) : State := { s with boundary := { owed := [r], foundActive := true } }

def ramp (number : Nat) : Segment :=
  { number := number, kind := .ramp 1000 10, phase := none, directives := [], autoRelease := false, check := 0#16 }

def closing (number : Nat) : Segment := { ramp number with kind := .closing }

def queued (records : List Segment) (s : State) : State := { s with queue := { s.queue with records := records } }

/-- A ramp from 0 to 1000 in 10 frames with k boundaries behind it. -/
def ramping (k : Nat) (s : State) : State :=
  { s with schedule := { s.schedule with active := some { record := ramp 1, startSpeed := 0, startFrame := 90, elapsed := k } } }

/-- DL0 UP, polled at F = 100, axis 0 in ROAD. -/
def linked (s : State) : State :=
  (s.setLink 0 { state := .up, rating := some 8000, limit := some 6000, lastAccepted := some 99, lastPoll := 100 }).setAxis 0
    { s.axis 0 with mode := .road }

/-- Axis 0 in group 1 with a sync state. -/
def coupled (x : SyncState) (s : State) : State :=
  (linked s).setAxis 0 { (linked s).axis 0 with group := some .one, sync := x, lockCount := 19, slipCount := 49 }

/-- The latch of axis 0 set by its link's loss. -/
def faulted (armed : Bool) (s : State) : State :=
  s.setLatch 0 { FaultLatch.atReset with state := .set, firstCause := some .linkLost, faultFrame := some 90, armed := armed }

/-- A POLL of axis a with sample frame 100 and speed v, READY. -/
def pollOf (a v1 v0 : Byte) : List Byte := [a, 0#8, 0#8, 0#8, 100#8, v1, v0, 0#8, 0#8]

/-- A directive of axis 0 placed at F = 99. -/
def directed (action : Action) (s : State) : State :=
  (s.setSlot 0 { s.slot 0 with pending := some { action := action, placed := 99 } }).setOrder [0]

def receivingOn (p : Port) (r : Receiver) : State := turning.setReceiver p r

/-! ## One step at a time -/

theorem test_decodeTableWord_none : Sys2Proof.decodeTableWord 8 0x01 = none := rfl
theorem test_setClock : (after (.setClock .supervisor (.fits 99)) quiet).clock.n = 99 := by decide +kernel
theorem test_clockStart : (after (.clockStart .supervisor (.fits ())) quiet).clock.state = .running := by decide +kernel
theorem test_startRun : (after (.startRun .supervisor (.fits ())) turning).schedule.state = .armed := by decide +kernel
theorem test_hold_shutsTheGate :
    gateOpen
      (queued [ramp 1]
        (after (.hold .sampler (.fits { scope := some .any, reason := 7#8, duration := none })) (inRun .armed))) = false := by
  decide +kernel
theorem test_setAxis_road :
    ((after (.setAxis .supervisor (.fits { axis := 3, mode := some .road, forceLimit := 6000, rollerMass := 300 }))
      quiet).axis 3).mode = .road := by decide +kernel
theorem test_couple_deferred :
    ((after (.couple .supervisor (.fits { axis := 0, action := .engage (some 1) })) (linked turning)).slot 0).outcome =
      .deferred := by decide +kernel
theorem test_poll_answersDemand :
    (after (.poll 0 0 (pollOf 0#8 0x03#8 0xE8#8)) (linked turning)).receiver (.drive 0) =
      .answering
        { address := 0xB0#8, kind := 0x72#8, code := .ok, frame := 100
          body := .demand { axis := 0, order := .road 0, brakeOn := false, saturated := false } } := by decide +kernel
theorem test_segmentStart : (after .segmentStart (owing .schedule (queued [ramp 1] (inRun .armed)))).schedule.state =
    .running := by decide +kernel
theorem test_segmentProgress :
    (after (.frameBoundary [] []) (ramping 0 (inRun .running))).schedule.virtualSpeed = 100 := by decide +kernel
theorem test_safeStopAssert : (after .safeStopAssert (inRun .running)).schedule.stopCause = some .safeStop := by
  decide +kernel
theorem test_linkTimeout :
    ((after (.linkTimeout 0)
      (owing (.link 0) { linked turning with clock := { turning.clock with f := 111 } })).latch 0).firstCause =
      some .linkLost := by decide +kernel
/-- The check word of the manual's generator over "123456789". -/
theorem test_crc : crc [0x31#8, 0x32#8, 0x33#8, 0x34#8, 0x35#8, 0x36#8, 0x37#8, 0x38#8, 0x39#8] = 0x29B1#16 := by
  decide +kernel
/-- The layout of a POLL with a temperature and a fault code (R200). -/
theorem test_pollLayout :
    pollFields [2#8, 0#8, 0#8, 1#8, 44#8, 0xFF#8, 0x38#8, 2#8, 1#8, 0xF9#8, 5#8] =
      some
        { axis := 2, sampleFrame := 300, speed := -200, temperature := some (-7), status := .fault
          faultCode := some 5#8 } := by decide +kernel
/-- The layout of a RAMP record with a phase and one directive (R200). -/
theorem test_recordLayout :
    (walkRecord [0#8, 7#8, 0x25#8, 0x0B#8, 0xB8#8, 0x01#8, 0xF4#8, 0x21#8, 0x14#8, 0xAB#8, 0xCD#8, 0xEE#8]).map
      (fun x => (segmentOf x.1, x.2)) =
      some
        ({ number := 7, kind := .ramp 3000 500, phase := some { number := 2, lines := ⟨true, false, false, false⟩ }
           directives := [{ axis := 0, action := .engage .one }], autoRelease := false, check := 0xABCD#16 },
         [0xEE#8]) := by decide +kernel

/-- PREVIEW shows of the active segment its kind and target speed and no duration (R57, R198). -/
theorem test_preview_active :
    (after (.preview .supervisor (.fits ())) (ramping 4 (inRun .running))).receiver .supervisory =
      .answering
        { address := 0x90#8, kind := 0x62#8, code := .ok, frame := 100
          body := .preview (some { number := 1, kind := .ramp 1000, framesLeft := 6 }) 0 [] } := by decide +kernel
/-- The refusal of a malformed POLL of 9 bytes is a message of 10 bytes (spec/12, "Worked sequence"). -/
theorem test_pollRefused_length :
    ((after (.poll 0 0 [0#8, 0#8, 0#8, 0#8]) (linked turning)).receiver (.drive 0) =
      .answering { address := 0xB0#8, kind := 0x71#8, code := .badParam, frame := 100, body := .header }) ∧
    (Answer.bytes { address := 0xB0#8, kind := 0x71#8, code := .badParam, frame := 100, body := .header }).map List.length =
      some 10 := by decide +kernel
/-- A record of an END with its check (R16, R200) passes the six checks; its successor is numbered 2 and the queue closed. -/
theorem test_checkRecords_end :
    ((walkRecord ([0#8, 1#8, 3#8] ++ bytes16 (crc [0#8, 1#8, 3#8]).toNat)).map fun x =>
      match checkRecords { expected := 1, tail := 0, closed := false } 1 [x.1] with
      | .ok (segments, last) => some (segments.map (·.kind), last)
      | .error _ => none) =
      some (some ([.closing], { expected := 2, tail := 0, closed := true })) := by decide +kernel

/-! ## Witnesses: hypotheses of the obligations that states and operands meet -/

theorem witness_EmptyQueueCountsTime :
    (quiet.pending = [] ∧ quiet.boundary.owed = [] ∧ quiet.clock.lineHold = none ∧ quiet.heldInReset = false ∧
      quiet.clock.state = .halted) ∧
    (turning.pending = [] ∧ turning.clock.state = .running ∧ turning.clock.position = some 0 ∧ 0 < turning.clock.n) ∧
    (let s := { turning with clock := { turning.clock with position := some 19, f := 4294967294 } }
    s.clock.position = some 19 ∧ s.clock.n ≤ 19 ∧ s.clock.f < 4294967295) := by decide +kernel

theorem witness_SettleTakesWhatIsOwed :
    quiet.boundary.owed = [] ∧ (Instr.holdExpiry, Reaction.holds) ∈ [(Instr.holdExpiry, Reaction.holds)] ∧
    (after (.frameBoundary [] reactions) turning).boundary.owed = reactions ∧
    (after (.frameBoundary [.holds] [.schedule]) turning).boundary.owed = [.schedule, .trace, .limit] := by decide +kernel

theorem witness_MessageOnBusyPortIsDiscarded :
    messagePort (.status .supervisor (.fits ())) = some .supervisory ∧
    portReady (settle (receivingOn .supervisory .waiting)) .supervisory = false := by decide +kernel

theorem witness_RefusedBeforeItsRule :
    portReady (settle quiet) (portOf .sampler) = true ∧
    supervisoryRequest (.flush .sampler .misfit) = some (.sampler, 0x22#8) ∧ Sender.sampler ≠ .supervisor ∧
    portReady (settle quiet) (portOf .driverAid) = true ∧
    misfitRequest (.release .driverAid .misfit) = some (.driverAid, 0x31#8) ∧ observerMay 0x31#8 = true := by
  decide +kernel

theorem witness_MessagesThatAreNoRequest :
    portReady (settle quiet) (.drive 1) = true ∧ portTakes (.drive 1) 0x33#8 = true ∧
    linkCarries (.drive 1) 0x72#8 = false := by decide +kernel

/-- The one hypothesis of ClockRequests, BlockResult, FlushResult, StartRunResult, AbortAndCloseRun and SetRunResult. -/
theorem witness_supervisoryPortReady : portReady (settle quiet) .supervisory = true := by decide +kernel

/-- The three cases of the tail speed in BlockResult, and what RecordChecks supposes of a walk. -/
theorem witness_BlockResult_tailSpeed :
    (queued [closing 1, ramp 2] quiet).queue.records = [closing 1] ++ [ramp 2] ∧
    tailSpeed (queued [closing 1, ramp 2] quiet) = 1000 ∧
    (let s := ramping 0 (inRun .running)
    s.queue.records = [] ∧ s.schedule.state = .running ∧ s.schedule.active.isSome = true ∧ tailSpeed s = 1000) ∧
    (let s := { inRun .dwell with schedule := { (inRun .dwell).schedule with virtualSpeed := 700 } }
    s.queue.records = [] ∧ s.schedule.state ≠ .running ∧ tailSpeed s = 700) := by decide +kernel

theorem witness_RecordChecks :
    walkRecord [0#8, 7#8, 0x25#8] = none ∧ (walkRecord [0#8, 7#8, 3#8, 0#8, 0#8]).isSome = true := by decide +kernel

theorem witness_SoftResetResult :
    portReady (settle (inRun .ended)) .supervisory = true ∧ (settle (inRun .ended)).schedule.state ≠ .idle ∧
    (settle quiet).schedule.state = .idle := by decide +kernel

theorem witness_HoldRequests :
    portReady (settle turning) (portOf .sampler) = true ∧ portReady (settle turning) (portOf .supervisor) = true ∧
    (settle turning).holds.get (.external .sampler) = none ∧
    (let s := after (.hold .sampler (.fits { scope := some .phase, reason := 1#8, duration := some 60000 })) turning
    (s.holds.get (.external .sampler)).isSome = true ∧
    portReady (settle (s.setReceiver .observer .idle)) (portOf .sampler) = true) ∧
    (let s := turning.setHold (.axis 3) (some { scope := .any, reason := 2#8, placed := 0, expiry := none })
    (s.holds.get (.axis 3)).isSome = true ∧ portReady (settle s) .supervisory = true) := by decide +kernel

theorem witness_SetAxisResult :
    ((inRun .armed).runActive = true ∧ quiet.runActive = false) ∧
    portReady (settle (inRun .armed)) .supervisory = true ∧
    (let s := directed .release (coupled .slipping quiet)
    portReady (settle s) .supervisory = true ∧ s.runActive = false ∧ ((settle s).axis 0).group.isSome = true ∧
      ((settle s).slot 0).pending.isSome = true ∧ AxisMode.free ≠ .road) := by decide +kernel

theorem witness_SharedSettingsResult :
    (settle (inRun .stopping)).schedule.state = .stopping ∧ portReady (settle (inRun .stopping)) .supervisory = true ∧
    GuardsInRange ⟨60000, 0, 60000, 1000, 0⟩ ∧ ¬ GuardsInRange ⟨1, 0, 0, 0, 0⟩ ∧ LinksInRange ⟨200, 7⟩ ∧
    ¬ LinksInRange ⟨1, 0⟩ := by decide +kernel

theorem witness_GroupValues :
    (quiet.axis 0).group = none ∧
    (let s := coupled .locked turning
    (s.axis 0).group = some .one ∧ (s.axis 0).sync = .locked ∧ 0 ≤ s.sync.lockedAuthority ∧ (s.axis 0).stale = true ∧
      (countedMembers s .one = []) ∧
      countedMembers (s.setAxis 0 { s.axis 0 with stale := false, measuredSpeed := some 500 }) .one ≠ []) ∧
    ((coupled .acquiring turning).axis 0).sync = .acquiring ∧ 0 ≤ turning.sync.acquiringAuthority := by decide +kernel

theorem witness_CoupleResult :
    portReady (settle (linked quiet)) .supervisory = true ∧ placementRefusal (linked quiet) 0 (.engage .two) = none ∧
    placementRefusal quiet 0 (.engage .one) = some .refusedMode ∧
    placementRefusal (coupled .locked quiet) 0 (.engage .two) = some .refusedEngaged := by decide +kernel

theorem witness_LossRequests :
    (let c : BandSettings := ⟨-40, -25, -10, 15⟩
    (1 ≤ c.th ∧ c.th ≤ 15) ∧ -40 ≤ c.ta ∧ c.ta + c.th ≤ c.tb ∧ c.tb + c.th ≤ c.tc ∧ c.tc + c.th ≤ 125) ∧
    LossItemsWellFormed [⟨0, 0, 500, 5000⟩, ⟨3, 3, 0, 0⟩] ∧ LossItemsInRange [⟨0, 0, 500, 5000⟩, ⟨3, 3, 0, 0⟩] ∧
    ¬ LossItemsWellFormed [⟨0, 0, 1, 1⟩, ⟨0, 0, 1, 1⟩] ∧ LossItemsWellFormed [⟨0, 0, 501, 0⟩] ∧
    ¬ LossItemsInRange [⟨0, 0, 501, 0⟩] := by decide +kernel

theorem witness_BandEvaluation : (1 : Int) ≤ 3 ∧ (0 : Int) + 3 ≤ 20 ∧ (20 : Int) + 3 ≤ 45 := by decide

/-- Bank A ACTIVE and bank B LOADED. -/
def banked (s : State) : State :=
  { s with road := { bankA := .active ⟨100, 200, 300, 1800, 55⟩, bankB := .loaded ⟨0, 0, 0, 500, 0⟩, pendingSelection := none } }

theorem witness_BankRequests :
    portReady (settle (banked quiet)) .supervisory = true ∧ CoefficientsInRange ⟨5000, 50000, 100000, 5000, 100⟩ ∧
    (settle (banked quiet)).road.bankA = .active ⟨100, 200, 300, 1800, 55⟩ ∧
    (settle (banked quiet)).road.bankB = .loaded ⟨0, 0, 0, 500, 0⟩ ∧ (settle quiet).road.bankA = .empty ∧
    portReady (settle (banked (inRun .dwell))) .supervisory = true ∧
    portReady (settle (banked (inRun .stopping))) .supervisory = true := by decide +kernel

theorem witness_DemandComposition : ((linked turning).link 0).limit = some 6000 ∧ (0 : Int) ≤ 6000 := by decide +kernel

theorem witness_HelloResult :
    portReady (settle quiet) (.drive 3) = true ∧ (3#8 : Byte).toNat = (3 : Axis).val ∧
    256 * (0x03#8 : Byte).toNat + (0xE8#8 : Byte).toNat = 1000 ∧ (2#8 : Byte).toNat < 4 ∧
    (2#8 : Byte).toNat ≠ (3 : Axis).val := by decide +kernel

theorem witness_PollResult :
    portReady (settle quiet) (.drive 0) = true ∧ ((settle quiet).link 0).state ≠ .up ∧
    portReady (settle (linked turning)) (.drive 0) = true ∧ ((settle (linked turning)).link 0).state = .up ∧
    pollFields [0#8] = none ∧ (pollFields (pollOf 1#8 0#8 0#8)).map (·.axis) = some 1 ∧
    (pollFields (pollOf 0#8 0#8 0#8)).map (·.axis) = some 0 := by decide +kernel

/-- The sample of `pollOf 0 v1 v0` is accepted on DL0 at F = 100. -/
theorem witness_PollEvents_sample :
    (pollFields (pollOf 0#8 0x01#8 0xF4#8)).map (fun p => (p.axis, p.status, p.sampleFrame, p.speed)) =
      some (0, .ready, 100, 500) ∧
    classify 100 (some 99) 2 100 500 = .accepted := by decide +kernel

/-- The lock's POLL: alone in its group the axis's error is 0, within the window, and its count reaches 20. -/
theorem witness_PollEvents_lock :
    portReady (settle (coupled .acquiring turning)) (.drive 0) = true ∧
    ((after (.lockAcquired 0 0 (pollOf 0#8 0x01#8 0xF4#8)) (coupled .acquiring turning)).axis 0).sync = .locked := by
  decide +kernel

/-- The slip's POLL: with axis 1 LOCKED at rest in the same group, axis 0 at 500 has the error 250, beyond the limit. -/
theorem witness_PollEvents_slip :
    (let s := coupled .slipping turning
    let t :=
      (s.setLink 1 (s.link 0)).setAxis 1
        { s.axis 0 with sync := .locked, stale := false, measuredSpeed := some 0, sampleFrame := some 99 }
    portReady (settle t) (.drive 0) = true ∧ (t.latch 0).state = .clear ∧ (t.axis 0).sync = .slipping ∧
      t.sync.slipPersist ≤ min 255 ((t.axis 0).slipCount + 1) ∧
      ((after (.slipPersist 0 0 (pollOf 0#8 0x01#8 0xF4#8)) t).axis 0).sync = .faulted) := by decide +kernel

theorem witness_LinkLoss :
    (let s := owing (.link 0) { linked turning with clock := { turning.clock with f := 111 } }
    Reaction.link 0 ∈ s.boundary.owed ∧ (s.link 0).state = .up ∧
      (s.link 0).lastPoll + s.linkSettings.timeout < s.clock.f) ∧
    (let s := owing (.link 0) { linked turning with clock := { turning.clock with f := 110 } }
    s.clock.f ≤ (s.link 0).lastPoll + s.linkSettings.timeout) ∧
    (settle (linked turning)).heldInReset = false ∧ ((settle (linked turning)).link 0).state = .up ∧
    ((settle quiet).link 0).state ≠ .up ∧ (settle { quiet with heldInReset := true }).heldInReset = true := by
  decide +kernel

theorem witness_CauseAtLatch :
    (quiet.latch 0).state = .clear ∧ ((faulted true quiet).latch 0).state = .set := by decide +kernel

theorem witness_FaultRequests :
    (let s := faulted true (linked quiet)
    portReady (settle s) .supervisory = true ∧ ((settle s).latch 0).state = .set ∧ ((settle s).latch 0).armed = true ∧
      ((settle s).link 0).state = .up ∧ ((settle s).axis 0).driveStatus ≠ some .fault) ∧
    ((settle (faulted false quiet)).latch 0).armed = false ∧ ((settle (faulted true quiet)).link 0).state ≠ .up := by
  decide +kernel

theorem witness_AckSafeStopResult :
    (State.atReset false).safety = .safeLatched ∧ (State.atReset true).safety = .safeAsserted ∧
    quiet.safety = .normal ∧ portReady (settle (State.atReset true)) .supervisory = true ∧
    portReady (settle quiet) (portOf .driverAid) = true := by decide +kernel

theorem witness_SafeStopLine :
    (settle (inRun .running)).heldInReset = false ∧ (settle (inRun .running)).safety ≠ .safeAsserted ∧
    (settle (inRun .running)).runActive = true ∧ (settle quiet).runActive = false ∧
    (settle quiet).record.slipRef = .all none ∧ (settle (State.atReset true)).safety = .safeAsserted ∧
    (settle { quiet with heldInReset := true }).heldInReset = true := by decide +kernel

/-- A record whose list holds `k` entries. -/
def recorded (k : Nat) (s : State) : State :=
  { s with
    record :=
      { s.record with
        exceptions :=
          List.replicate k
            { kind := .slip, opened := 0, closed := none, axis := some 0, holder := none, cause := none } } }

theorem witness_RunRecordEntries :
    (inRun .armed).schedule.state = .armed ∧ (recorded 31 (inRun .armed)).record.exceptions.length < 32 ∧
    32 ≤ (recorded 32 (inRun .armed)).record.exceptions.length ∧ (recorded 32 (inRun .armed)).schedule.state = .armed ∧
    quiet.schedule.state = .idle ∧ quiet.record.dwellRef ≠ some 0 := by decide +kernel

theorem witness_ReadsResult :
    portReady (settle quiet) (portOf .sampler) = true ∧ portReady (settle quiet) (portOf .supervisor) = true := by
  decide +kernel

/-- A STATUS request of the supervisory computer, whole: its last two bytes are its check. -/
def statusBytes : List Byte := [0x10#8, 0x60#8, 0#8] ++ bytes16 (crc [0x10#8, 0x60#8, 0#8]).toNat

theorem witness_ReceiverEvents :
    (settle (receivingOn .supervisory (.receiving statusBytes))).receiver .supervisory = .receiving statusBytes ∧
    (settle (receivingOn .supervisory (.receiving statusBytes))).heldInReset = false ∧
    statusBytes.length = 5 ∧ (crc (statusBytes.take 3)).toNat = 256 * 0x84 + 0xD5 ∧
    (after (.lineIdle .supervisory) (receivingOn .supervisory (.receiving statusBytes))).receiver .supervisory =
      (after (.status .supervisor (.fits ())) turning).receiver .supervisory ∧
    statusBytes.drop 3 = [0x84#8, 0xD5#8] ∧
    (settle (receivingOn .supervisory (.receiving [0x10#8]))).receiver .supervisory = .receiving [0x10#8] ∧
    (settle quiet).receiver .supervisory = .idle ∧
    (settle (receivingOn .supervisory .waiting)).receiver .supervisory = .waiting := by decide +kernel

theorem witness_BoundaryAdvance :
    (settle turning).clock.state = .running ∧ (settle turning).heldInReset = false ∧
    (settle turning).clock.f < 4294967295 ∧ (settle quiet).clock.state ≠ .running ∧
    (let s := { turning with clock := { turning.clock with f := 4294967294 } }
    (settle s).clock.f + 1 = 4294967295 ∧ (settle s).clock.state = .running) := by decide +kernel

theorem witness_EngineReaction :
    (settle turning).schedule.state = .idle ∧ gateOpen (settle (inRun .armed)) = false ∧
    (settle (ramping 8 (inRun .running))).schedule.state = .running ∧ 8 + 1 < (ramp 1).duration ∧
    (let s := settle (inRun .dwell)
    gateOpen s = false ∧ s.schedule.dwellCount + 1 < s.schedule.dwellLimit) ∧
    (let s := inRun .stopping
    let t := { s with schedule := { s.schedule with virtualSpeed := 2 } }
    (settle t).schedule.stopDeceleration < (settle t).schedule.virtualSpeed) := by decide +kernel

/-- A segment with a phase, the engage of axis 2, which is not in ROAD, and the release of axis 0. -/
def eventful (number : Nat) : Segment :=
  { ramp number with
    phase := some { number := 3, lines := ⟨true, false, true, false⟩ }
    directives := [{ axis := 2, action := .engage .one }, { axis := 0, action := .release }] }

theorem witness_HeadTaken :
    (let s := owing .schedule (queued [ramp 1] (inRun .armed))
    Reaction.schedule ∈ s.boundary.owed ∧ s.queue.records = ramp 1 :: [] ∧ gateOpen s = true ∧
      s.schedule.state = .armed ∧ (ramp 1).kind ≠ .closing) ∧
    (let s := owing .schedule (queued [closing 1] (inRun .dwell))
    s.queue.records = closing 1 :: [] ∧ gateOpen s = true ∧ s.schedule.state = .dwell ∧ (closing 1).kind = .closing) ∧
    (let s := owing .schedule (queued [ramp 2] (ramping 9 (inRun .running)))
    gateOpen s = true ∧ s.schedule.state = .running ∧ (ramp 1).duration = 10) := by decide +kernel

/-- A start out of a dwell closes its entry, drops the selection of an EMPTY bank with its entry, and places its items in
ascending axis number, the refused one leaving its outcome alone. -/
theorem witness_HeadTaken_dwell :
    (let s := coupled .locked (inRun .dwell)
    let r := { s.record with
      exceptions := [{ kind := .holdDwell, opened := 5, closed := none, axis := none, holder := none, cause := none }]
      dwellRef := some 1 }
    let w := owing .schedule (queued [eventful 1] { s with record := r, road := { s.road with pendingSelection := some .b } })
    let t := after .segmentStart w
    w.schedule.state = .dwell ∧ gateOpen w = true ∧ w.road.bankB = .empty ∧
      t.record.exceptions.map (fun e => (e.kind, e.closed)) = [(.holdDwell, some 0), (.bankEmpty, none)] ∧
      t.record.dwellRef = none ∧ t.directives.order = [0] ∧ (t.slot 2).outcome = .refusedMode ∧
      t.directives = itemsPlaced w w.directives (eventful 1).directives) := by decide +kernel

/-- A segment's end at an open gate places its auto-release before the next segment's items. -/
theorem witness_HeadTaken_segmentEnd :
    (let s := coupled .locked (inRun .running)
    let a : ActiveSegment :=
      { record := { ramp 1 with autoRelease := true }, startSpeed := 0, startFrame := 90, elapsed := 9 }
    let w := owing .schedule (queued [ramp 2] { s with schedule := { s.schedule with active := some a } })
    w.schedule.active = some a ∧ 1 ≤ a.record.duration ∧ a.record.duration ≤ a.elapsed + 1 ∧ gateOpen w = true ∧
      (after .segmentStart w).directives = itemsPlaced w (releasesPlaced w a.record) [] ∧
      (after .segmentStart w).directives.order = [0]) := by decide +kernel

theorem witness_SegmentEnd :
    (let s := owing .schedule (ramping 9 (inRun .running))
    Reaction.schedule ∈ s.boundary.owed ∧ s.schedule.state = .running ∧
      s.schedule.active = some { record := ramp 1, startSpeed := 0, startFrame := 90, elapsed := 9 } ∧
      1 ≤ (ramp 1).duration ∧ (ramp 1).duration ≤ 9 + 1 ∧ gateOpen s = false ∧ gateOpen (queued [ramp 2] s) = true ∧
      (ramp 1).autoRelease = false) := by
  decide +kernel

/-- Auto-release at a shut gate: axes 0 and 2 grouped, the pending directive of axis 2 replaced, axis 3's left in place. -/
theorem witness_SegmentEnd_autoRelease :
    (let s := coupled .locked (inRun .running)
    let a : ActiveSegment :=
      { record := { ramp 1 with autoRelease := true }, startSpeed := 0, startFrame := 90, elapsed := 9 }
    let u := (s.setAxis 2 { s.axis 2 with group := some .two }).setOrder [2, 3]
    let w := owing .schedule { u with schedule := { u.schedule with active := some a } }
    gateOpen w = false ∧ a.record.autoRelease = true ∧ w.safety = .normal ∧
      (∀ n : Axis, (w.axis n).group.isSome = true → (w.latch n).state = .clear) ∧
      (after .segmentEnd w).directives = releasesPlaced w a.record ∧
      (releasesPlaced w a.record).order = [3, 0, 2]) := by decide +kernel

theorem witness_DwellLimitAndStopComplete :
    (let s := inRun .dwell
    let t := owing .schedule { s with schedule := { s.schedule with dwellCount := 4999 } }
    Reaction.schedule ∈ t.boundary.owed ∧ t.schedule.state = .dwell ∧ gateOpen t = false ∧
      t.schedule.dwellLimit ≤ t.schedule.dwellCount + 1) ∧
    (let s := inRun .stopping
    let t := owing .schedule { s with schedule := { s.schedule with virtualSpeed := 1 } }
    t.schedule.state = .stopping ∧ t.schedule.virtualSpeed ≤ t.schedule.stopDeceleration) := by decide +kernel

theorem witness_HoldExpiryResult :
    (let e : HoldEntry := { scope := .any, reason := 5#8, placed := 90, expiry := some 100 }
    let s := owing .holds ((inRun .running).setHold (.external .sampler) (some e))
    Reaction.holds ∈ s.boundary.owed ∧ s.holds.get (.external .sampler) = some e ∧ e.expiry = some s.clock.f ∧
      s.boundary.foundActive = true ∧ s.record.exceptions.length ≤ 32) ∧
    ({ inRun .idle with boundary := { owed := [.holds], foundActive := false } } : State).boundary.foundActive = false := by
  decide +kernel

theorem witness_DirectivesApplied :
    (let s := owing .directives (directed .release (coupled .locked turning))
    Reaction.directives ∈ s.boundary.owed ∧ (s.slot 0).pending = some { action := .release, placed := 99 } ∧
      99 < s.clock.f ∧ placementRefusal s 0 .release = none ∧ guardsAllow s 0 .release = true ∧
      (s.axis 0).group.isSome = true ∧ (s.axis 0).sync ≠ .uncoupled) ∧
    (let s := owing .directives (directed (.engage .one) (linked turning))
    (s.slot 0).pending = some { action := .engage .one, placed := 99 } ∧ placementRefusal s 0 (.engage .one) = none ∧
      guardsAllow s 0 (.engage .one) = true ∧ (s.axis 0).group = none ∧ (s.axis 0).driveStatus ≠ some .brakeSet ∧
      s.directives.order = [] ++ 0 :: []) := by decide +kernel

/-- The five steps of one directive: none, placed at this boundary, refused, redundant, kept by a guard, kept by the brake,
applied. -/
theorem witness_DirectivesApplied_steps :
    (quiet.slot 0).pending = none ∧
    (let s := directed .release { coupled .locked turning with clock := { turning.clock with f := 99 } }
    s.clock.f ≤ 99 ∧ (s.slot 0).pending = some { action := .release, placed := 99 }) ∧
    (let s := (directed (.engage .one) (linked turning)).setLink 0 DriveLink.atReset
    placementRefusal s 0 (.engage .one) = some .refusedLink ∧
      ((considerDirective s 0).slot 0).outcome = .refusedLink) ∧
    (let s := directed (.engage .one) (coupled .locked turning)
    placementRefusal s 0 (.engage .one) = none ∧ (s.axis 0).group = some .one ∧
      ((considerDirective s 0).slot 0).outcome = .redundant) ∧
    (let s := directed .release (linked turning)
    placementRefusal s 0 .release = none ∧ (s.axis 0).sync = .uncoupled) ∧
    (let s := directed (.engage .one) (linked turning)
    let u := s.setSlot 0 { s.slot 0 with released := some 50 }
    earliestFrame u 0 (.engage .one) = some 150 ∧ u.clock.f < 150 ∧ considerDirective u 0 = u) ∧
    (let s := directed (.engage .one) (linked turning)
    let u := s.setAxis 0 { s.axis 0 with driveStatus := some .brakeSet }
    earliestFrame u 0 (.engage .one) = none ∧ (u.axis 0).driveStatus = some .brakeSet) := by decide +kernel

/-- Two engages in one pass: the first takes the slot, the second waits for the stagger limit the first has raised. -/
theorem witness_DirectivesApplied_slot :
    (let s := linked (linked turning)
    let u := (s.setLink 1 (s.link 0)).setAxis 1 (s.axis 0)
    let d : Directive := { action := .engage .one, placed := 99 }
    let w :=
      owing .directives
        (((u.setSlot 1 { u.slot 1 with pending := some d }).setSlot 0 { u.slot 0 with pending := some d }).setOrder [1, 0])
    guardsAllow w 0 (.engage .one) = true ∧
      ((react .directives w).slot 1).outcome = .applied ∧ (react .directives w).directives.order = [0] ∧
      earliestFrame (react .directives w) 0 (.engage .one) = some (100 + w.directives.guards.staggerSame) ∧
      after (.applyEngage 0) w = w ∧ after (.applyEngage 1) w = takeOwed w .directives) := by decide +kernel

/-- Axis 0 measured at `v` against a virtual speed of 0, the monitor's reaction owed, the deviation counter at `k`. -/
def compared (v : Int) (k : Nat) (x : ScheduleState) : State :=
  let s := (linked (inRun .running)).setAxis 0 { (linked turning).axis 0 with measuredSpeed := some v }
  owing .trace { s with trace := { s.trace with leftState := x, leftSpeed := 0, deviation := k } }

/-- The comparison's premises for each clause: made, and outside or within a tolerance of 200, at both sides of the allowed
deviation of 500; not made in STOPPING or over an empty set. -/
theorem witness_TraceDeviationResult :
    (∀ x ∈ [ScheduleState.running, .dwell],
      traceOutside (takeOwed (compared 201 0 x) .schedule) = some true ∧
      traceOutside (takeOwed (compared (-200) 0 x) .schedule) = some false) ∧
    traceOutside (takeOwed (compared 201 0 .stopping) .schedule) = none ∧
    traceOutside (takeOwed (owing .trace (inRun .running)) .schedule) = none ∧
    Reaction.trace ∈ (compared 201 499 .running).boundary.owed ∧ (compared 0 0 .running).trace.allowed = 500 ∧
    ([498, 499, 500].map fun k => (takeOwed (takeOwed (compared 201 k .running) .schedule) .trace).trace.deviation) =
      [499, 500, 500] ∧
    ([0, 499, 500].map fun k => (takeOwed (takeOwed (compared 200 k .running) .schedule) .trace).trace.deviation) =
      [0, 0, 0] ∧
    (after .traceDeviation (compared 201 499 .running)).record.traceRef = some 1 ∧
    after .traceDeviation (compared 201 498 .running) = compared 201 498 .running ∧
    (takeOwed (compared 201 499 .stopping) .trace).trace.deviation = 499 := by decide +kernel

theorem witness_FrameLimitResult :
    (let s := owing .limit { inRun .running with clock := { turning.clock with f := 4294967295 } }
    Reaction.limit ∈ s.boundary.owed ∧ s.clock.f = 4294967295 ∧ s.boundary.owed = [.limit] ∧ s.runActive = true) := by
  decide +kernel

/-- The premises of the statements about every step are met with the clock RUNNING, where a step goes on. -/
theorem witness_properties_clockAndRun :
    ClockSound turning ∧ QueueSound turning ∧ ScheduleSound turning ∧ SafeStopSound turning ∧ RecordSound turning ∧
    BanksSound turning ∧ step turning = .next (tick turning) := by
  refine ⟨⟨by decide, by decide, by decide, ⟨0, rfl, by decide⟩⟩, ?_, ?_, fun h => absurd rfl h, ?_,
    ⟨by decide, fun _ h => nomatch h⟩, rfl⟩
  · exact ⟨by decide, List.isChain_nil, by decide, by decide, by decide, by decide, by decide, by decide⟩
  · exact ⟨by decide, by decide, by decide, by decide, by decide, by decide⟩
  · exact ⟨by decide, by decide, by decide, fun _ h => (nomatch h), fun _ h => (nomatch h),
      fun n p h => absurd h (by
        have : ∀ m : Axis, turning.record.slipRef.get m = none := by decide
        simp [this n]),
      by decide⟩

/-- The same for the hold set, the axes, the latches and the directives, with axis 0 LOCKED in group 1 and a hold in place. -/
theorem witness_properties_axes :
    let s := (coupled .locked turning).setHold (.external .sampler)
      (some { scope := .any, reason := 0#8, placed := 100, expiry := some 101 })
    HoldsSound s ∧ CouplingSound s ∧ FaultsAgree s ∧ LatchesSound s ∧ DirectivesSound s ∧ step s = .next (tick s) := by
  refine ⟨⟨fun n e h => ?_, fun who e x h hx => ?_⟩, ?_, ?_, ?_, ⟨by decide, by decide⟩, rfl⟩
  · fin_cases n <;> cases h
  · rcases who with src | n
    · cases src
      · cases h
      · cases h; cases hx; decide
      · cases h
    · fin_cases n <;> cases h
  · unfold CouplingSound; decide +kernel
  · unfold FaultsAgree; decide +kernel
  · unfold LatchesSound; decide +kernel

end Sys2Proof.Tests
end

