-- ==== Sys2Proof/Proofs/GroupValues.lean ====
section
/-!
PROOF. The values of a group and the coupling correction (R81, R82, R85): who counts in a group, the mean that the reference
and the group acceleration both are, the clip to an authority, and the correction in each sync state.
-/
namespace Sys2Proof.Machine
open Sys2Proof

/-! ## Counted members (R81) -/

theorem SyncState.coupled_iff (x : SyncState) :
    x.coupled = true ↔ x = .acquiring ∨ x = .locked ∨ x = .slipping := by
  cases x <;> simp [SyncState.coupled]

/-- The counted members by R81's four conditions, in one proposition. -/
theorem countedMembers_eq_filter (s : State) (g : Group) :
    countedMembers s g = [0, 1, 2, 3].filter fun i => decide
      ((s.axis i).group = some g ∧
        ((s.axis i).sync = .acquiring ∨ (s.axis i).sync = .locked ∨ (s.axis i).sync = .slipping) ∧
        (s.link i).state = .up ∧ (s.axis i).stale = false) := by
  refine List.filter_congr fun i _ => ?_
  rw [Bool.eq_iff_iff, decide_eq_true_iff, ← SyncState.coupled_iff]
  simp only [Bool.and_eq_true, decide_eq_true_iff, Bool.not_eq_true', and_assoc]

/-! ## The mean over a group (R81, R82) -/

/-- What R81 and R82 have in common: an axis's own value, or, in a group with counted members, their mean. -/
def groupMean (s : State) (value : Axis → Int) (n : Axis) : Int :=
  match (s.axis n).group with
  | none => value n
  | some g => if countedMembers s g = [] then value n else mean ((countedMembers s g).map value)

theorem reference_eq_groupMean (s : State) (n : Axis) : reference s n = groupMean s (ownSpeed s) n := by
  unfold reference groupMean
  cases (s.axis n).group with
  | none => rfl
  | some g => cases members : countedMembers s g <;> simp [members]

theorem groupAcceleration_eq_groupMean (s : State) (n : Axis) :
    groupAcceleration s n = groupMean s (fun i => (s.axis i).acceleration) n := by
  unfold groupAcceleration groupMean
  cases (s.axis n).group with
  | none => rfl
  | some g => cases members : countedMembers s g <;> simp [members]

section
variable {s : State} {n : Axis} {g : Group} (value : Axis → Int)

theorem groupMean_of_no_group (alone : (s.axis n).group = none) : groupMean s value n = value n := by
  simp [groupMean, alone]

theorem groupMean_of_none_counted (grouped : (s.axis n).group = some g) (none_counted : countedMembers s g = []) :
    groupMean s value n = value n := by
  simp [groupMean, grouped, none_counted]

theorem groupMean_of_some_counted (grouped : (s.axis n).group = some g) (some_counted : countedMembers s g ≠ []) :
    groupMean s value n = ((countedMembers s g).map value).sum.tdiv (countedMembers s g).length := by
  simp [groupMean, grouped, some_counted, mean]

end

/-! ## The coupling correction (R85) -/

/-- With an authority that is not negative, the interval [-limit, limit] is not empty and the order of its two tests in `clip`
does not matter. -/
theorem clip_eq_max_min {limit : Int} (nonneg : 0 ≤ limit) (x : Int) : clip limit x = max (-limit) (min limit x) := by
  unfold clip
  split
  case isTrue above => omega
  case isFalse notAbove => split <;> omega

section
variable {s : State} {n : Axis}

theorem correction_of_acquiring (sync : (s.axis n).sync = .acquiring) :
    correction s n = clip s.sync.acquiringAuthority ((s.sync.gain * (s.axis n).speedError).tdiv 10) := by
  simp [correction, sync]

theorem correction_of_locked_or_slipping (sync : (s.axis n).sync = .locked ∨ (s.axis n).sync = .slipping) :
    correction s n = clip s.sync.lockedAuthority ((s.sync.gain * (s.axis n).speedError).tdiv 10) := by
  rcases sync with locked | slipping
  · simp [correction, locked]
  · simp [correction, slipping]

theorem correction_of_uncoupled_or_faulted (sync : (s.axis n).sync = .uncoupled ∨ (s.axis n).sync = .faulted) :
    correction s n = 0 := by
  rcases sync with uncoupled | faulted
  · simp [correction, uncoupled]
  · simp [correction, faulted]

end

/-- Settles O24: the reference and the group acceleration are `groupMean` of two values, and the correction is read off its
equation in each sync state. -/
theorem groupValues : Obligations.GroupValues := by
  intro s n own counted
  have members_eq (g : Group) : [0, 1, 2, 3].filter (counted g) = countedMembers s g :=
    (countedMembers_eq_filter s g).symm
  simp only [members_eq, reference_eq_groupMean, groupAcceleration_eq_groupMean]
  refine ⟨fun alone => ?ungrouped, fun g grouped => ⟨fun none_counted => ?fallback, fun some_counted => ?means⟩,
    fun acquiring nonneg => ?acquiring, fun coupled nonneg => ?coupled, correction_of_uncoupled_or_faulted⟩
  case ungrouped => exact ⟨groupMean_of_no_group _ alone, groupMean_of_no_group _ alone⟩
  case fallback =>
    exact ⟨groupMean_of_none_counted _ grouped none_counted, groupMean_of_none_counted _ grouped none_counted⟩
  case means =>
    exact ⟨groupMean_of_some_counted _ grouped some_counted, groupMean_of_some_counted _ grouped some_counted⟩
  case acquiring => rw [correction_of_acquiring acquiring, clip_eq_max_min nonneg]
  case coupled => rw [correction_of_locked_or_slipping coupled, clip_eq_max_min nonneg]

end Sys2Proof.Machine
end

/-!
PROOF. The earliest frame of a directive (R104): `laterOf` is the maximum of two terms of which either may be absent, so a
chain of them is the maximum of the list of the terms that are present.
-/
namespace Sys2Proof.Machine
open Sys2Proof

/-! ## The later of terms that may be absent -/

@[simp] theorem laterOf_none_left (y : Option Nat) : laterOf none y = y := rfl

@[simp] theorem laterOf_none_right (x : Option Nat) : laterOf x none = x := by
  cases x <;> rfl

@[simp] theorem laterOf_some_some (a b : Nat) : laterOf (some a) (some b) = some (max a b) := rfl

theorem laterOf_assoc (x y z : Option Nat) : laterOf (laterOf x y) z = laterOf x (laterOf y z) := by
  cases x with
  | none => simp
  | some a =>
    cases y with
    | none => simp
    | some b => cases z <;> simp [Nat.max_assoc]

/-- The maximum of the terms present, one term at a time. -/
theorem max?_reduceOption_cons (x : Option Nat) (terms : List (Option Nat)) :
    (x :: terms).reduceOption.max? = laterOf x terms.reduceOption.max? := by
  cases x with
  | none => simp
  | some a =>
    rw [List.reduceOption_cons_of_some, List.max?_cons]
    cases terms.reduceOption.max? <;> simp

/-- Adding a guard to the later of two histories gives the later of the two terms. -/
theorem spaced_laterOf (x y : Option Nat) (guard : Nat) :
    spaced (laterOf x y) guard = laterOf (spaced x guard) (spaced y guard) := by
  cases x with
  | none => rfl
  | some a => cases y <;> simp [spaced, Nat.add_max_add_right]

/-! ## The earliest frame of each action -/

section
variable (s : State) (n : Axis)

theorem earliestFrame_release :
    earliestFrame s n .release = spaced (s.slot n).engaged s.directives.guards.lockMin := rfl

/-- The largest of the five terms present: the two of the axis itself, its axle partner's, and one of each axis of the other
axle. -/
theorem earliestFrame_engage (g : Group) :
    earliestFrame s n (.engage g) =
      [spaced (s.slot n).released s.directives.guards.freeMin, spaced (s.slot n).engaged s.directives.guards.cycleMin,
        spaced (s.slot (partner n)).engaged s.directives.guards.staggerSame,
        spaced (s.slot (otherAxle n).1).engaged s.directives.guards.staggerOther,
        spaced (s.slot (otherAxle n).2).engaged s.directives.guards.staggerOther].reduceOption.max? := by
  simp only [max?_reduceOption_cons, List.reduceOption_nil, List.max?_nil, laterOf_none_right]
  rw [← spaced_laterOf, ← laterOf_assoc]
  rfl

end

/-- Settles O26: both equations are those of `earliestFrame`, the engage's read at each axis, whose number gives its axle
partner and the other axle. -/
theorem earliestFrame_spec : Obligations.EarliestFrame := by
  intro s n g
  refine ⟨?engage, earliestFrame_release s n, guardsAllow_iff s n⟩
  case engage =>
    match n with
    | 0 => exact earliestFrame_engage s 0 g
    | 1 => exact earliestFrame_engage s 1 g
    | 2 => exact earliestFrame_engage s 2 g
    | 3 => exact earliestFrame_engage s 3 g

end Sys2Proof.Machine

/-!
PROOF. Road load, inertia and the composed demand (R125, R136 to R138, R140, R144, R145): the deadband and the sign of the
reference, the axle share of an axis, the signed loss and the ACTIVE bank's part of the sum, and the clip of the sum to an
effective limit that is not negative. The conditions of R140's lines stand in `demandFor` as in the statement, so what is to
be shown of it is the demand of its last line, ROAD.
-/
namespace Sys2Proof.Machine
open Sys2Proof

/-! ## The road-load force and an axis's share of it (R136, R137) -/

/-- Outside the deadband the reference is not 0, so its sign is one of two. -/
theorem roadForce_eq (c : Coefficients) (v : Int) :
    roadForce c v =
      if -50 ≤ v ∧ v ≤ 50 then 0
      else (if v < 0 then -1 else 1) * (c.f0 + (c.f1 * (v.natAbs : Int)).tdiv 10000 + (c.f2 * (v * v)).tdiv 100000000) := by
  have deadband : (v.natAbs : Int) ≤ 50 ↔ -50 ≤ v ∧ v ≤ 50 := by omega
  unfold roadForce
  refine if_ctx_congr deadband (fun _ => rfl) fun outside => ?_
  have sign_eq : v.sign = if v < 0 then -1 else 1 := by
    split
    case isTrue backward => exact Int.sign_eq_neg_one_of_neg backward
    case isFalse notBackward => exact Int.sign_eq_one_of_pos (by omega)
  rw [sign_eq]

theorem axleShare_eq (c : Coefficients) (n : Axis) :
    axleShare c n = if n = 0 ∨ n = 1 then c.frontShare else 100 - c.frontShare := by
  match n with
  | 0 | 1 | 2 | 3 => rfl

/-- Settles O30: both quotients are those of the model, read at the road-load force and the axle share in closed form. -/
theorem roadAndInertia : Obligations.RoadAndInertia := by
  intro s c n v share total
  have share_eq : axleShare c n = share := axleShare_eq c n
  have total_eq : roadForce c (reference s n) = total := roadForce_eq c v
  rw [roadShare, inertiaTerm, share_eq, total_eq]
  exact ⟨rfl, rfl⟩

/-! ## The terms of a ROAD demand's sum (R125, R144) -/

theorem mul_sign_eq (x v : Int) : x * v.sign = if 0 < v then x else if v < 0 then -x else 0 := by
  rcases lt_trichotomy v 0 with backward | rfl | forward
  · simp [Int.sign_eq_neg_one_of_neg backward, backward, backward.le]
  · simp
  · simp [Int.sign_eq_one_of_pos forward, forward]

theorem signedLoss_eq (s : State) (n : Axis) :
    signedLoss s n =
      if 0 < ownSpeed s n then lossTerm s n else if ownSpeed s n < 0 then -lossTerm s n else 0 :=
  mul_sign_eq _ _

/-- What the ACTIVE bank adds to a ROAD demand's sum: 0 while no bank is ACTIVE. -/
def bankLoad (s : State) (n : Axis) : Int :=
  (activeCoefficients s.road).elim 0 fun c => roadShare s c n + inertiaTerm s c n

theorem roadSum_eq_bankLoad (s : State) (n : Axis) :
    roadSum s n = bankLoad s n - signedLoss s n + correction s n := by
  unfold roadSum bankLoad
  cases activeCoefficients s.road <;> rfl

/-- The ACTIVE bank is A, or else B. -/
theorem activeCoefficients_eq_or (r : RoadLoad) :
    activeCoefficients r = r.bankA.activeCoefficients.or r.bankB.activeCoefficients := by
  unfold activeCoefficients activeBank
  cases coefficientsA : r.bankA.activeCoefficients with
  | some c => simp [RoadLoad.bank, coefficientsA]
  | none => cases coefficientsB : r.bankB.activeCoefficients <;> simp [RoadLoad.bank, coefficientsB]

/-! ## The clip to the effective limit (R145) -/

theorem effectiveLimit_of_present {s : State} {n : Axis} {limit : Int} (present : (s.link n).limit = some limit) :
    effectiveLimit s n = limit := by
  simp [effectiveLimit, present]

/-- A value is larger in amount than a limit exactly where it lies outside the limit's interval. -/
theorem lt_natAbs_iff_outside (limit x : Int) : limit < (x.natAbs : Int) ↔ x < -limit ∨ limit < x := by
  omega

/-- Settles O31: line by line of R140; on the line ROAD the sum is the model's, term by term, and the limit that is present
is the one it is clipped to. -/
theorem demandComposition : Obligations.DemandComposition := by
  intro s n limit present nonneg plain v loss signed load sum
  have loss_eq : lossTerm s n = loss := by
    unfold lossTerm loss
    cases s.loss.bands.get n <;> rfl
  have signed_eq : signedLoss s n = signed := by rw [signedLoss_eq, loss_eq]; rfl
  have load_eq : bankLoad s n = load := by
    unfold bankLoad load
    rw [activeCoefficients_eq_or]
    cases s.road.bankA <;> cases s.road.bankB <;> rfl
  have sum_eq : roadSum s n = sum := by rw [roadSum_eq_bankLoad, load_eq, signed_eq]
  unfold demandFor
  rw [effectiveLimit_of_present present, sum_eq, clip_eq_max_min nonneg]
  refine if_congr Iff.rfl rfl (if_congr Iff.rfl rfl (if_congr Iff.rfl rfl ?_))
  cases (s.axis n).mode with
  | parked => rfl
  | free => rfl
  | speed => rfl
  | road => simp only [lt_natAbs_iff_outside]

end Sys2Proof.Machine

/-!
PROOF. ACK SAFE STOP (R176): what the request answers in each state of the safety latch, and the command as that request
taken on the station port of its sender.
-/
namespace Sys2Proof.Machine
open Sys2Proof

/-! ## The request, by the state of the latch -/

section
variable {s : State}

theorem ackSafeStopRequest_of_safeLatched (latch : s.safety = .safeLatched) :
    ackSafeStopRequest (.fits ()) s = safetyServed { s with safety := .normal } .ok := by
  simp [ackSafeStopRequest, latch]

theorem ackSafeStopRequest_of_safeAsserted (latch : s.safety = .safeAsserted) :
    ackSafeStopRequest (.fits ()) s = safetyServed s .conditionPresent := by
  simp [ackSafeStopRequest, latch]

theorem ackSafeStopRequest_of_normal (latch : s.safety = .normal) :
    ackSafeStopRequest (.fits ()) s = safetyServed s .refusedState := by
  simp [ackSafeStopRequest, latch]

end

/-! ## The command -/

theorem exec_ackSafeStop (src : Sender) (p : Payload Unit) (s : State) :
    exec (.ackSafeStop src p) s = .next (takeStation src 0x58#8 (ackSafeStopRequest p) s) := rfl

/-- The supervisory computer's request leaves the state its outcome names, and the answer shows the latch and the level of
that state. -/
theorem exec_ackSafeStop_of_served {s t : State} {code : Code} (ready : portReady (settle s) .supervisory = true)
    (served : ackSafeStopRequest (.fits ()) (settle s) = safetyServed t code) :
    exec (.ackSafeStop .supervisor (.fits ())) s =
      .next (answerStation t .supervisor 0x58#8 code (.safety t.safety t.safeStopAsserted)) := by
  rw [exec_ackSafeStop, takeStation_taken .supervisor _ _ _ ready (.inl rfl), served]
  rfl

/-- Settles O40: the supervisory computer's request by the three states of the latch; an observer's kind 0x58 is not one it
may send. -/
theorem ackSafeStopResult : Obligations.AckSafeStopResult := by
  intro s u
  refine ⟨fun ready => ⟨fun latched => ?latched, fun asserted => ?asserted, fun normal => ?normal⟩,
    fun src observer ready => ?observer⟩
  case latched => exact exec_ackSafeStop_of_served ready (ackSafeStopRequest_of_safeLatched latched)
  case asserted => exact exec_ackSafeStop_of_served ready (ackSafeStopRequest_of_safeAsserted asserted)
  case normal => exact exec_ackSafeStop_of_served ready (ackSafeStopRequest_of_normal normal)
  case observer => rw [exec_ackSafeStop, takeStation_notPermitted src _ _ _ ready observer rfl]

end Sys2Proof.Machine

/-!
PROOF. What the shared operations can do, said once for the proofs that follow: the halt at the frame limit.
-/
namespace Sys2Proof.Machine
open Sys2Proof

@[simp] theorem haltClock_runActive (s : State) (rest : Nat) : (haltClock s rest).runActive = s.runActive := rfl

/-- The clock's own reaction: nothing short of the limit, else the halt, and with a run active its end (R7, R56). -/
theorem limitReaction_cases (s : State) :
    limitReaction s = s ∨
    (s.clock.f = Config.frameLimit ∧ s.runActive = true ∧
      limitReaction s = enterAborted (haltClock s (s.clock.n + 1)) .frameLimit) ∨
    (s.clock.f = Config.frameLimit ∧ s.runActive = false ∧ limitReaction s = haltClock s (s.clock.n + 1)) := by
  by_cases atLimit : s.clock.f = Config.frameLimit
  · cases active : s.runActive <;> simp [limitReaction, atLimit, active]
  · simp [limitReaction, atLimit]

end Sys2Proof.Machine

/-!
PROOF. Every step keeps the clock's ranges (R1, R2, R7): one lemma for the reactions, one for the requests, and the frame
boundary, which alone advances F and does so below its limit.
-/
namespace Sys2Proof.Machine
open Sys2Proof

namespace ClockSound
variable {s t : State}

theorem of_clock_eq (sound : ClockSound s) (same : t.clock = s.clock) : ClockSound t :=
  sound.of_clock (by rw [same]) (by rw [same]) (by rw [same]) (by rw [same])

/-- A clock that halts has no frame position. -/
theorem halted (sound : ClockSound s) (n : t.clock.n = s.clock.n) (f : t.clock.f ≤ s.clock.f)
    (state : t.clock.state = .halted) (position : t.clock.position = none) : ClockSound t := by
  obtain ⟨low, high, frame, -⟩ := sound
  exact ⟨n ▸ low, n ▸ high, f.trans frame, by rw [state]; exact position⟩

/-- A clock that runs has a frame position, at most N. -/
theorem running {p : Nat} (sound : ClockSound s) (n : t.clock.n = s.clock.n) (f : t.clock.f ≤ 4294967295)
    (state : t.clock.state = .running) (position : t.clock.position = some p) (le : p ≤ s.clock.n) : ClockSound t := by
  obtain ⟨low, high, -, -⟩ := sound
  exact ⟨n ▸ low, n ▸ high, f, by rw [state]; exact ⟨p, position, n ▸ le⟩⟩

theorem frame_le (sound : ClockSound s) : s.clock.f ≤ 4294967295 := sound.2.2.1

end ClockSound

theorem haltClock_clockSound {s : State} (rest : Nat) (sound : ClockSound s) : ClockSound (haltClock s rest) :=
  sound.halted rfl le_rfl rfl rfl

theorem react_clockSound (r : Reaction) {s : State} (sound : ClockSound s) : ClockSound (react r s) := by
  cases r with
  | schedule =>
    obtain ⟨lines, same⟩ := scheduleReaction_clock s
    exact sound.of_clock (by simp [react, same]) (by simp [react, same]) (by simp [react, same]) (by simp [react, same])
  | limit =>
    change ClockSound (limitReaction s)
    obtain same | ⟨-, -, same⟩ | ⟨-, -, same⟩ := limitReaction_cases s
    · exact sound.of_clock_eq (by rw [same])
    · exact (haltClock_clockSound _ sound).of_clock_eq (by rw [same]; exact (enterAborted_keeps _ _).2.1)
    · rw [same]; exact haltClock_clockSound _ sound
  | _ => exact sound.of_clock_eq (by simp [react])

theorem setClockRequest_clockSound (p : Payload Nat) {s : State} (sound : ClockSound s) :
    ClockSound (setClockRequest p s).state := by
  unfold setClockRequest
  split
  case h_1 => exact sound
  case h_2 n =>
    split
    case isTrue => exact sound
    case isFalse notRunning =>
      split
      case isTrue inRange =>
        obtain ⟨-, -, frame, position⟩ := sound
        refine ⟨inRange.1, inRange.2, frame, ?_⟩
        cases state : s.clock.state with
        | halted => simpa [state] using position
        | running => exact absurd state notRunning
      case isFalse => exact sound

theorem clockStartRequest_clockSound (p : Payload Unit) {s : State} (sound : ClockSound s) :
    ClockSound (clockStartRequest p s).state := by
  unfold clockStartRequest
  split
  case h_1 => exact sound
  case h_2 =>
    split
    case isTrue => exact sound.running rfl sound.frame_le rfl rfl (Nat.zero_le _)
    case isFalse => exact sound

theorem clockHaltRequest_clockSound (p : Payload Unit) {s : State} (sound : ClockSound s) :
    ClockSound (clockHaltRequest p s).state := by
  unfold clockHaltRequest
  split
  case h_1 => exact sound
  case h_2 =>
    split
    case isTrue => exact sound
    case isFalse =>
      split
      case isTrue => exact haltClock_clockSound _ sound
      case isFalse => exact sound

theorem resetRequest_clockSound (p : Payload Unit) {s : State} (sound : ClockSound s) :
    ClockSound (resetRequest p s).state := by
  unfold resetRequest
  split
  case h_1 => exact sound
  case h_2 =>
    split
    case isTrue => exact sound.halted rfl (Nat.zero_le _) rfl rfl
    case isFalse => exact sound

theorem Request.clockSound {h : State → Served} (request : Request h) {s : State} (sound : ClockSound s) :
    ClockSound (h s).state := by
  cases request with
  | setClock p => exact setClockRequest_clockSound p sound
  | clockStart p => exact clockStartRequest_clockSound p sound
  | clockHalt p => exact clockHaltRequest_clockSound p sound
  | reset p => exact resetRequest_clockSound p sound
  | reads h nothing => exact (nothing s).symm ▸ sound
  | _ => exact sound.of_clock_eq (by simp)

theorem beginBoundary_clockSound {s : State} (occurs : boundaryOccurs s = true) (sound : ClockSound s) :
    ClockSound (beginBoundary s) := by
  obtain ⟨running, -, below⟩ := (boundaryOccurs_iff s).mp occurs
  exact sound.running rfl below running rfl (Nat.zero_le _)

theorem atReset_clockSound (asserted : Bool) : ClockSound (State.atReset asserted) :=
  by simp [ClockSound, State.atReset, Clock.atReset]

theorem clockSound_stable : Stable ClockSound where
  receiver _ _ _ sound := sound.of_clock_eq (by simp)
  taken _ r _ sound := react_clockSound r (sound.of_clock_eq rfl)
  begins _ _ occurs sound := beginBoundary_clockSound occurs sound
  request _ request _ _ sound := request.clockSound sound
  broken _ _ _ sound := sound.of_clock_eq (by simp)
  asserted _ sound := sound.of_clock_eq (by simp)
  deasserted _ sound := sound.of_clock_eq (by simp)
  outputs _ _ _ _ sound := sound.of_clock rfl rfl rfl rfl
  position _ _ running le sound := sound.running rfl sound.frame_le running rfl le
  drawn _ _ sound := sound.of_clock_eq rfl
  held _ sound := sound.of_clock rfl rfl rfl rfl
  full asserted _ _ := (atReset_clockSound asserted).of_clock_eq rfl

/-- Settles O55: the clock's ranges are stable under everything a step is made of. -/
theorem clockStaysSound : Obligations.ClockStaysSound :=
  fun _ _ sound stepped => step_keeps clockSound_stable (fun _ _ sound => sound.of_clock_eq rfl) sound stepped

end Sys2Proof.Machine

/-!
PROOF. What a link's loss, a miswiring, a delivery, a HELLO and a POLL are made of: writes of one axis record or one link, a
cause at the fault latch, the start and the end of a slip. A property that each of these keeps is kept by all of them.
-/
namespace Sys2Proof.Machine
open Sys2Proof

/-- The record `new` is in the mode and the group of `old`, and coupled where `old` is: what changes is measured or counted. -/
structure SameCoupling (old new : AxisRecord) : Prop where
  mode : new.mode = old.mode
  group : new.group = old.group
  sync : new.sync = old.sync ∨ old.sync.coupled = true ∧ new.sync.coupled = true

theorem SameCoupling.of_same {old new : AxisRecord} (mode : new.mode = old.mode) (group : new.group = old.group)
    (sync : new.sync = old.sync) : SameCoupling old new := ⟨mode, group, .inl sync⟩

structure LinkStable (P : State → Prop) : Prop where
  /-- An axis record takes new values and keeps its coupling. -/
  axis : ∀ (s : State) (n : Axis) (r : AxisRecord), SameCoupling (s.axis n) r → P s → P (s.setAxis n r)
  /-- A drive link changes, and does not go down. -/
  link : ∀ (s : State) (n : Axis) (l : DriveLink), l.state = (s.link n).state ∨ l.state = .up → P s → P (s.setLink n l)
  /-- A band moves. -/
  loss : ∀ (s : State) (x : LossUnit), P s → P { s with loss := x }
  /-- A cause reaches a fault latch. -/
  cause : ∀ (s : State) (n : Axis) (c : Cause) (code : Option Byte), P s → P (raiseCause s n c code)
  /-- A slip starts, or ends. -/
  slipOpened : ∀ (s : State) (n : Axis), P s → P (openSlip s n)
  slipClosed : ∀ (s : State) (n : Axis), P s → P (closeSlip s n)

namespace LinkStable
variable {P : State → Prop} (h : LinkStable P) {s : State} (n : Axis)
include h

theorem setStale (sound : P s) : P (setStale s n) := h.axis _ _ _ (.of_same rfl rfl rfl) sound

/-! A property that does not read the links' states is kept when one goes down. -/
section
variable (free : ∀ (s : State) (n : Axis) (l : DriveLink), P s → P (s.setLink n l))

include free

theorem loseLink (sound : P s) : P (loseLink s n) := by
  have lost := h.setStale n (free s n { s.link n with state := .lost } sound)
  unfold Machine.loseLink
  dsimp only
  split
  · exact h.cause _ _ _ _ lost
  · exact lost

theorem miswire (sound : P s) : P (miswire s n) := by
  unfold Machine.miswire
  dsimp only
  split
  · exact h.cause _ _ _ _ (free _ _ _ (h.setStale n sound))
  · exact h.cause _ _ _ _ (free _ _ _ sound)

theorem linkReaction (sound : P s) : P (linkReaction s n) := by
  unfold Machine.linkReaction
  split
  · exact h.loseLink n free sound
  · exact sound

end

theorem syncUpdate (sound : P s) : P (syncUpdate s n) := by
  have put (r : AxisRecord) (same : SameCoupling (s.axis n) r) : P (s.setAxis n r) := h.axis _ _ _ same sound
  unfold Machine.syncUpdate
  dsimp only
  split
  case h_1 => exact sound
  case h_2 => exact sound
  case h_3 acquiring =>
    split
    · refine put _ ⟨rfl, rfl, .inr ⟨by rw [acquiring]; rfl, ?_⟩⟩
      dsimp only
      split <;> rfl
    · exact put _ (.of_same rfl rfl rfl)
  case h_4 locked =>
    split
    · exact put _ (.of_same rfl rfl rfl)
    · have slipping := h.slipOpened _ n (put
        { s.axis n with speedError := ownSpeed s n - reference s n, sync := .slipping, slipCount := 1 }
        ⟨rfl, rfl, .inr ⟨by rw [locked]; rfl, rfl⟩⟩)
      split
      · exact h.cause _ _ _ _ slipping
      · exact slipping
  case h_5 slipping =>
    split
    · split
      · exact h.cause _ _ _ _ (put _ (.of_same rfl rfl rfl))
      · exact put _ (.of_same rfl rfl rfl)
    · split
      · exact h.slipClosed _ n (put _ ⟨rfl, rfl, .inr ⟨by rw [slipping]; rfl, rfl⟩⟩)
      · exact put _ (.of_same rfl rfl rfl)

theorem storeAccepted (v : Int) (sample : Nat) (temperature : Option Int) (sound : P s) :
    P (storeAccepted s n v sample temperature) := by
  unfold Machine.storeAccepted
  dsimp only
  split
  · exact h.axis _ _ _ (.of_same rfl rfl rfl) sound
  · exact h.loss _ _ (h.axis _ _ _ (.of_same rfl rfl rfl) sound)

theorem deliver (cls : SampleClass) (p : PollFields) (temperature : Option Int) (sound : P s) :
    P (deliver s n cls p temperature) := by
  have told : P (s.setAxis n { s.axis n with driveStatus := some p.status }) := h.axis _ _ _ (.of_same rfl rfl rfl) sound
  unfold Machine.deliver
  by_cases fault : p.status = .fault
  · simp only [fault, if_true] at told ⊢
    have base := h.cause _ n .driveFault p.faultCode told
    cases cls with
    | accepted => exact h.storeAccepted n _ _ _ base
    | stale => exact h.setStale n base
    | repeated => exact base
  · simp only [fault, if_false]
    cases cls with
    | accepted => exact h.syncUpdate n (h.storeAccepted n _ _ _ told)
    | stale => exact h.setStale n told
    | repeated => exact told

theorem refreshLimit (sound : P s) : P (refreshLimit s n) := h.link _ _ _ (.inl rfl) sound

theorem helloRequest (miswired : ∀ s n, P s → P (Machine.miswire s n)) (payload : List Byte) (sound : P s) : P (helloRequest n payload s).state := by
  unfold Machine.helloRequest
  split
  · exact sound
  · split
    · exact sound
    · split
      · exact miswired _ _ sound
      · split
        · exact h.refreshLimit n (h.link _ _ _ (.inr rfl) sound)
        · exact sound

theorem pollRequest (miswired : ∀ s n, P s → P (Machine.miswire s n)) (payload : List Byte) (sound : P s) : P (pollRequest n payload s).state := by
  unfold Machine.pollRequest
  split
  · exact sound
  · split
    · exact sound
    · split
      · exact miswired _ _ sound
      · exact h.axis _ _ _ (.of_same rfl rfl rfl) (h.deliver n _ _ _ (h.link _ _ _ (.inl rfl) sound))

end LinkStable

end Sys2Proof.Machine

/-!
PROOF. The per-axis state under the shared operations: what each write, a departure, a concluded or placed directive, and a
cause at the fault latch leave at every axis.
-/
namespace Sys2Proof.Machine
open Sys2Proof

/-! ## Reading after a write -/

section
variable (s : State) (n m : Axis)

@[simp] theorem State.axis_setAxis (r : AxisRecord) : (s.setAxis n r).axis m = if m = n then r else s.axis m :=
  Four.get_set _ _ _ _

@[simp] theorem State.link_setLink (l : DriveLink) : (s.setLink n l).link m = if m = n then l else s.link m :=
  Four.get_set _ _ _ _

@[simp] theorem State.latch_setLatch (l : FaultLatch) : (s.setLatch n l).latch m = if m = n then l else s.latch m :=
  Four.get_set _ _ _ _

@[simp] theorem State.slot_setSlot (x : DirectiveSlot) : (s.setSlot n x).slot m = if m = n then x else s.slot m :=
  Four.get_set _ _ _ _

@[simp] theorem State.slot_setOrder (order : List Axis) : (s.setOrder order).slot m = s.slot m := rfl

end

section
variable {s t : State} (n : Axis)

theorem State.axis_congr (same : t.axes = s.axes) : t.axis n = s.axis n := by unfold State.axis; rw [same]
theorem State.link_congr (same : t.links = s.links) : t.link n = s.link n := by unfold State.link; rw [same]
theorem State.latch_congr (same : t.latches = s.latches) : t.latch n = s.latch n := by unfold State.latch; rw [same]
theorem State.slot_congr (same : t.directives.slots = s.directives.slots) : t.slot n = s.slot n := by
  unfold State.slot; rw [same]
theorem State.runActive_congr (same : t.schedule = s.schedule) : t.runActive = s.runActive := by
  unfold State.runActive; rw [same]

end

/-! ## Departures and concluded directives -/

section
variable (s : State) (n m : Axis)

theorem recordDeparture_slot :
    (recordDeparture s n).slot m = if m = n then { s.slot n with released := some s.clock.f } else s.slot m :=
  State.slot_setSlot _ _ _ _

@[simp] theorem leaveGroup_axis (sync : SyncState) :
    (leaveGroup s n sync).axis m = if m = n then (s.axis n).uncouple sync else s.axis m := by
  unfold State.axis
  rw [leaveGroup_axes, Four.get_set]

/-- The release history of an axis that departs from a group (R103). -/
theorem leaveGroup_slot (sync : SyncState) :
    (leaveGroup s n sync).slot m =
      if m = n ∧ (s.axis n).group.isSome = true then { s.slot n with released := some s.clock.f } else s.slot m := by
  have before (r : AxisRecord) (k : Axis) :
      ((if (s.axis n).sync = .slipping then closeSlip s n else s).setAxis n r).slot k = s.slot k :=
    State.slot_congr k (by split <;> simp)
  unfold leaveGroup
  by_cases grouped : (s.axis n).group.isSome = true
  · simp only [grouped, if_true, and_true]
    rw [recordDeparture_slot, before, before]
    split <;> simp [apply_ite State.clock]
  · simp only [grouped, if_false, and_false, Bool.false_eq_true]
    exact before _ _

@[simp] theorem leaveGroup_guards (sync : SyncState) :
    (leaveGroup s n sync).directives.guards = s.directives.guards := by
  unfold leaveGroup recordDeparture
  dsimp only
  split <;> split <;> simp

/-- The slip of a departing axis ends, and nothing else is recorded (R84). -/
theorem leaveGroup_record (sync : SyncState) :
    (leaveGroup s n sync).record = if (s.axis n).sync = .slipping then (closeSlip s n).record else s.record := by
  unfold leaveGroup
  dsimp only
  split <;> split <;> simp

theorem concludeDirective_slot (o : DirectiveOutcome) :
    (concludeDirective s n o).slot m =
      if m = n then { s.slot n with pending := none, outcome := o, outcomeFrame := s.clock.f } else s.slot m := by
  unfold concludeDirective
  rw [State.slot_setOrder, State.slot_setSlot]

@[simp] theorem concludeDirective_guards (o : DirectiveOutcome) :
    (concludeDirective s n o).directives.guards = s.directives.guards := rfl

/-- A cancellation, in one equation for an axis with a pending directive and for one with none (R110 to R112). -/
theorem cancelDirective_slot :
    (cancelDirective s n).slot m =
      if m = n then
        { s.slot n with
          pending := none
          outcome := if (s.slot n).pending.isSome = true then .cancelled else (s.slot n).outcome
          outcomeFrame := if (s.slot n).pending.isSome = true then s.clock.f else (s.slot n).outcomeFrame }
      else s.slot m := by
  unfold cancelDirective
  by_cases pending : (s.slot n).pending.isSome = true
  · simp [pending, concludeDirective_slot]
  · have absent : (s.slot n).pending = none := by simpa using pending
    by_cases same : m = n
    · subst same
      simp only [absent, Option.isSome_none, Bool.false_eq_true, if_false, if_true]
      rw [← absent]
    · simp [absent, same]

theorem cancelDirective_order :
    (cancelDirective s n).directives.order =
      if (s.slot n).pending.isSome = true then s.directives.order.filter (· ≠ n) else s.directives.order := by
  unfold cancelDirective
  split <;> simp

@[simp] theorem cancelDirective_guards : (cancelDirective s n).directives.guards = s.directives.guards := by
  unfold cancelDirective
  split <;> simp

/-- A placement writes the slot of its own axis alone: a refusal the last outcome, else the pending directive (R96). -/
theorem placeDirective_slot (action : Action) :
    (placeDirective s n action).slot m =
      if m = n then
        match placementRefusal s n action with
        | some o => { s.slot n with outcome := o, outcomeFrame := s.clock.f }
        | none =>
          { s.slot n with
            pending := some { action := action, placed := s.clock.f }, outcome := .deferred, outcomeFrame := s.clock.f }
      else s.slot m := by
  unfold placeDirective
  cases placementRefusal s n action with
  | some o => rw [State.slot_setSlot]
  | none => rw [State.slot_setOrder, State.slot_setSlot]

/-- A directive that is placed finds the safety latch NORMAL and the fault latch clear (R96). -/
theorem placementRefusal_none {s : State} {n : Axis} {action : Action} (placed : placementRefusal s n action = none) :
    s.safety = .normal ∧ (s.latch n).state = .clear ∧
      ∀ g, action = .engage g → (s.axis n).mode = .road ∧ (s.link n).state = .up := by
  unfold placementRefusal at placed
  have safety : s.safety = .normal := by
    by_contra other
    simp [other] at placed
  have latch : (s.latch n).state = .clear := by
    cases state : (s.latch n).state with
    | clear => rfl
    | set => simp [safety, state] at placed
  refine ⟨safety, latch, fun g engage => ?_⟩
  subst engage
  simp only [safety, latch, ne_eq, not_true_eq_false, if_false, reduceCtorEq] at placed
  by_cases mode : (s.axis n).mode = .road
  · by_cases link : (s.link n).state = .up
    · exact ⟨mode, link⟩
    · simp [mode, link] at placed
  · simp [mode] at placed

end

/-! ## A cause at the fault latch (R166 to R169) -/

/-- The AXISn hold of an axis fault (R67). -/
def faultHold (s : State) (c : Cause) : HoldEntry :=
  { scope := .any, reason := c.code, placed := s.clock.f, expiry := none }

section
variable (s : State) (n m : Axis) (c : Cause) (code : Option Byte)

/-- The part of an axis fault before the run record hears of it: the record, the pending directive and the hold. -/
def faultedAxis : State :=
  (cancelDirective (leaveGroup s n .faulted) n).setHold (.axis n) (some (faultHold s c))

theorem faultReactions_eq :
    faultReactions s n c =
      applyFaultPolicy (handEntry (faultedAxis s n c) (axisFaultEntry (faultedAxis s n c) n c)) := by
  simp [faultReactions, faultedAxis, faultHold]

/-- Neither the AXIS_FAULT entry nor the fault policy touches the axis itself. -/
theorem faultReactions_axes : (faultReactions s n c).axes = s.axes.set n ((s.axis n).uncouple .faulted) := by
  rw [faultReactions_eq]
  simp [faultedAxis, State.axis]

theorem faultReactions_holds : (faultReactions s n c).holds = s.holds.put (.axis n) (some (faultHold s c)) := by
  rw [faultReactions_eq]
  simp [faultedAxis]

theorem faultReactions_latches : (faultReactions s n c).latches = s.latches := by simp

theorem faultReactions_pending :
    ((faultReactions s n c).slot m).pending = if m = n then none else (s.slot m).pending := by
  rw [faultReactions_eq]
  simp [faultedAxis, State.slot]

theorem raiseCause_axis :
    (raiseCause s n c code).axis m =
      if m = n ∧ (s.latch n).state = .clear then (s.axis n).uncouple .faulted else s.axis m := by
  cases state : (s.latch n).state with
  | clear =>
    rw [raiseCause_clear _ _ _ _ state]
    unfold State.axis
    rw [faultReactions_axes, Four.get_set]
    simp [State.axis]
  | set =>
    rw [raiseCause_set _ _ _ _ state]
    simp [State.axis]

/-- After a cause the latch is set, whatever it was. -/
theorem raiseCause_latch_state :
    ((raiseCause s n c code).latch m).state = if m = n then .set else (s.latch m).state := by
  cases state : (s.latch n).state with
  | clear =>
    rw [raiseCause_clear _ _ _ _ state, State.latch_congr m (faultReactions_latches _ _ _), State.latch_setLatch]
    split <;> rfl
  | set =>
    rw [raiseCause_set _ _ _ _ state, State.latch_setLatch]
    split
    · exact state
    · rfl

theorem raiseCause_holds :
    (raiseCause s n c code).holds =
      if (s.latch n).state = .clear then s.holds.put (.axis n) (some (faultHold s c)) else s.holds := by
  cases state : (s.latch n).state with
  | clear => rw [raiseCause_clear _ _ _ _ state, faultReactions_holds]; simp [faultHold]
  | set => rw [raiseCause_set _ _ _ _ state]; simp

theorem raiseCause_pending :
    ((raiseCause s n c code).slot m).pending =
      if m = n ∧ (s.latch n).state = .clear then none else (s.slot m).pending := by
  cases state : (s.latch n).state with
  | clear =>
    rw [raiseCause_clear _ _ _ _ state, faultReactions_pending]
    simp [State.slot]
  | set => rw [raiseCause_set _ _ _ _ state]; simp [State.slot]

end

end Sys2Proof.Machine

/-!
PROOF. What a directive's consideration, a placement, a release and an assertion of SAFE-STOP are made of. A property that
the parts keep is kept by the reactions and requests that are made of them.
-/
namespace Sys2Proof.Machine
open Sys2Proof

/-! ## Placements in the engine's reaction (R99, R100) -/

structure PlacementStable (P : State → Prop) : Prop where
  /-- The property speaks of the axes, the latches, the holds and the directives alone. -/
  congr : ∀ s t : State, t.axes = s.axes → t.latches = s.latches → t.holds = s.holds → t.directives = s.directives →
    P s → P t
  place : ∀ (s : State) (n : Axis) (action : Action), P s → P (placeDirective s n action)

namespace PlacementStable
variable {P : State → Prop} (h : PlacementStable P) {s : State}
include h

theorem placeItems (items : List DirectiveItem) (sound : P s) : P (placeItems s items) := by
  refine foldl_property P _ (fun u n hu => ?_) _ _ sound
  split
  · exact h.place _ _ _ hu
  · exact hu

theorem placeAutoReleases (sound : P s) : P (placeAutoReleases s) := by
  refine foldl_property P _ (fun u n hu => ?_) _ _ sound
  split
  · exact h.place _ _ _ hu
  · exact hu

theorem handStart (g : Segment) (sound : P s) : P (handStart s g) := by
  have placed := h.placeItems g.directives (h.congr _ (applySelection s) (by simp) (by simp) (by simp) (by simp) sound)
  unfold Machine.handStart
  dsimp only
  split
  · exact placed
  · exact h.congr _ _ (by simp) (by simp) (by simp) (by simp) placed

theorem startSegment (g : Segment) (sound : P s) : P (startSegment s g) := by
  unfold Machine.startSegment
  refine h.handStart g (h.congr s _ ?_ ?_ ?_ ?_ sound)
  all_goals split <;> simp

theorem takeAtGate (sound : P s) : P (takeAtGate s) := by
  unfold Machine.takeAtGate
  split
  · exact sound
  · split
    · exact h.congr s _ (by simp) (by simp) (by simp) (by simp) sound
    all_goals exact h.startSegment _ sound

theorem endSegment (g : Segment) (sound : P s) : P (endSegment s g) := by
  unfold Machine.endSegment
  dsimp only
  split
  · exact h.congr _ _ (by simp) (by simp) (by simp) (by simp) (h.placeAutoReleases sound)
  · exact h.congr s _ (by simp) (by simp) (by simp) (by simp) sound

theorem passGate (sound : P s) : P (passGate s) := by
  unfold Machine.passGate
  split
  · exact h.takeAtGate sound
  · exact h.congr s _ (by simp) (by simp) (by simp) (by simp) sound

theorem reactSchedule (sound : P s) : P (reactSchedule s) := by
  unfold Machine.reactSchedule
  split
  case h_1 => exact sound
  case h_2 => exact sound
  case h_3 => exact sound
  case h_4 armed =>
    unfold reactArmed
    split
    · exact h.takeAtGate sound
    · exact sound
  case h_5 running =>
    unfold reactRunning
    split
    · exact h.congr s _ (by simp) (by simp) (by simp) (by simp) sound
    · split
      · exact h.congr s _ (by simp) (by simp) (by simp) (by simp) sound
      · exact h.passGate (h.endSegment _ (h.congr s _ (by simp) (by simp) (by simp) (by simp) sound))
  case h_6 dwell =>
    unfold reactDwell
    split
    · exact h.takeAtGate sound
    · refine h.congr s _ ?_ ?_ ?_ ?_ sound
      all_goals dsimp only; split <;> simp
  case h_7 stopping =>
    unfold reactStopping
    dsimp only
    split <;> exact h.congr s _ (by simp) (by simp) (by simp) (by simp) sound

theorem scheduleReaction (sound : P s) : P (scheduleReaction s) :=
  h.congr (Machine.reactSchedule (clearLines s)) _ rfl rfl rfl rfl
    (h.reactSchedule (h.congr s (clearLines s) (by simp) (by simp) (by simp) (by simp) sound))

theorem coupleRequest (p : Payload CoupleFields) (sound : P s) : P (coupleRequest p s).state := by
  unfold Machine.coupleRequest
  split
  · exact sound
  · split
    · exact sound
    · split
      · exact sound
      · split <;> exact h.place _ _ _ sound

end PlacementStable

/-! ## Directives considered, releases, cancellations (R78, R105 to R112, R174) -/

structure DirectiveStable (P : State → Prop) : Prop where
  /-- A grouped axis is released. -/
  leave : ∀ (s : State) (n : Axis), (s.axis n).group.isSome = true → P s → P (leaveGroup s n .uncoupled)
  /-- A pending directive is concluded. -/
  conclude : ∀ (s : State) (n : Axis) (o : DirectiveOutcome), (s.slot n).pending.isSome = true → P s →
    P (concludeDirective s n o)
  /-- An ENGAGE that passes its placement checks is applied. -/
  engage : ∀ (s : State) (n : Axis) (g : Group), (s.slot n).pending.isSome = true →
    placementRefusal s n (.engage g) = none → P s → P (applyEngage s n g)

namespace DirectiveStable
variable {P : State → Prop} (h : DirectiveStable P) {s : State}
include h

theorem releaseAxis (n : Axis) (sound : P s) : P (releaseAxis s n) := by
  unfold Machine.releaseAxis
  split
  case isTrue grouped => exact h.leave _ _ grouped sound
  case isFalse => exact sound

theorem cancelDirective (n : Axis) (sound : P s) : P (cancelDirective s n) := by
  unfold Machine.cancelDirective
  split
  case isTrue pending => exact h.conclude _ _ _ pending sound
  case isFalse => exact sound

theorem considerDirective (n : Axis) (sound : P s) : P (considerDirective s n) := by
  unfold Machine.considerDirective
  split
  case h_1 => exact sound
  case h_2 d isPending =>
    have pending : (s.slot n).pending.isSome = true := by rw [isPending]; rfl
    split
    · exact sound
    · split
      · exact h.conclude _ _ _ pending sound
      · next placed =>
        split
        · exact h.conclude _ _ _ pending sound
        · split
          · exact sound
          · split
            · refine h.conclude _ _ _ ?_ (h.releaseAxis n sound)
              unfold State.slot
              rw [releaseAxis_pending]
              exact pending
            · next action =>
              split
              · exact sound
              · exact h.engage _ _ _ pending (action ▸ placed) sound

theorem directivesReaction (sound : P s) : P (directivesReaction s) := by
  have consider (pick : State → Axis → Bool) (xs : List Axis) (u : State) (hu : P u) :
      P (xs.foldl (fun acc n => if pick acc n then Machine.considerDirective acc n else acc) u) := by
    refine foldl_property P _ (fun v n hv => ?_) _ _ hu
    split
    · exact h.considerDirective n hv
    · exact hv
  exact consider pendingEngage _ _ (consider pendingRelease _ _ sound)

/-- An accepted SET AXIS, given that the three values and the limit may be set. -/
theorem applyAxis (n : Axis) (mode : AxisMode) (forceLimit rollerMass : Int)
    (values : P (refreshLimit
      (s.setAxis n { s.axis n with mode := mode, forceLimit := forceLimit, rollerMass := rollerMass }) n)) :
    P (applyAxis s n mode forceLimit rollerMass) := by
  unfold Machine.applyAxis
  dsimp only
  split
  · exact values
  · exact h.cancelDirective n (h.releaseAxis n values)

/-- The reactions to an assertion of SAFE-STOP, given that the run may be aborted. -/
theorem safeStopReactions (aborted : P (enterAborted s .safeStop)) (sound : P s) : P (safeStopReactions s) := by
  unfold Machine.safeStopReactions
  refine foldl_property P _ (fun u n => h.cancelDirective n) _ _ (foldl_property P _ (fun u n => h.releaseAxis n) _ _ ?_)
  split
  · exact aborted
  · exact sound

end DirectiveStable

end Sys2Proof.Machine

/-!
PROOF. The agreement of latch, sync state and hold of a faulted axis (R67, R80, R94): one axis at a time. A write of one
axis leaves the agreement at the others, so each operation is judged at the axis it names.
-/
namespace Sys2Proof.Machine
open Sys2Proof

/-! ## The agreement at one axis -/

/-- `FaultsAgree` at one axis. -/
def FaultAgreesAt (s : State) (n : Axis) : Prop :=
  ((s.axis n).sync = .faulted ↔ (s.latch n).state = .set) ∧
  ((s.holds.get (.axis n)).isSome = true ↔ (s.latch n).state = .set) ∧
  (∀ e ∈ s.holds.get (.axis n), e.scope = .any ∧ e.expiry = none) ∧
  ((s.latch n).state = .set → (s.slot n).pending = none ∧ (s.axis n).group = none)

theorem faultsAgree_iff (s : State) : FaultsAgree s ↔ ∀ n, FaultAgreesAt s n := Iff.rfl

/-- What the agreement reads at an axis is the same in two states. -/
structure SameFault (s t : State) (n : Axis) : Prop where
  sync : (t.axis n).sync = (s.axis n).sync
  group : (t.axis n).group = (s.axis n).group
  latch : (t.latch n).state = (s.latch n).state
  hold : t.holds.get (.axis n) = s.holds.get (.axis n)
  pending : (t.slot n).pending = (s.slot n).pending

theorem SameFault.agrees {s t : State} {n : Axis} (same : SameFault s t n) (sound : FaultAgreesAt s n) :
    FaultAgreesAt t n := by
  unfold FaultAgreesAt
  rw [same.sync, same.group, same.latch, same.hold, same.pending]
  exact sound

theorem SameFault.of_fields {s t : State} (axes : t.axes = s.axes) (latches : t.latches = s.latches)
    (holds : t.holds = s.holds) (directives : t.directives = s.directives) (n : Axis) : SameFault s t n :=
  ⟨by rw [State.axis_congr n axes], by rw [State.axis_congr n axes], by rw [State.latch_congr n latches], by rw [holds],
    congrArg DirectiveSlot.pending (State.slot_congr n (congrArg DirectiveUnit.slots directives))⟩

theorem FaultsAgree.of_same {s t : State} (sound : FaultsAgree s) (same : ∀ n, SameFault s t n) : FaultsAgree t :=
  fun n => (same n).agrees (sound n)

theorem FaultsAgree.of_fields {s t : State} (sound : FaultsAgree s) (axes : t.axes = s.axes)
    (latches : t.latches = s.latches) (holds : t.holds = s.holds) (directives : t.directives = s.directives) :
    FaultsAgree t := sound.of_same (SameFault.of_fields axes latches holds directives)

/-- An operation on axis n: it is judged at n. -/
theorem FaultsAgree.update {s t : State} (n : Axis) (sound : FaultsAgree s) (others : ∀ m, m ≠ n → SameFault s t m)
    (own : FaultAgreesAt s n → FaultAgreesAt t n) : FaultsAgree t := by
  intro m
  by_cases same : m = n
  · exact same ▸ own (sound n)
  · exact (others m same).agrees (sound m)

/-! ## The operations -/

section
variable {s : State} (n : Axis)

theorem placeDirective_faultsAgree (action : Action) (sound : FaultsAgree s) : FaultsAgree (placeDirective s n action) := by
  refine sound.update n (fun m other => ⟨?_, ?_, ?_, ?_, ?_⟩) fun own => ?_
  · simp [State.axis]
  · simp [State.axis]
  · simp [State.latch]
  · simp
  · simp [placeDirective_slot, other]
  · obtain ⟨sync, hold, entry, set⟩ := own
    refine ⟨by simpa [State.axis, State.latch] using sync, by simpa [State.latch] using hold, by simpa using entry, ?_⟩
    intro latched
    have latched : (s.latch n).state = .set := by simpa [State.latch] using latched
    obtain ⟨pending, group⟩ := set latched
    refine ⟨?_, by simpa [State.axis] using group⟩
    rw [placeDirective_slot, if_pos rfl]
    cases refusal : placementRefusal s n action with
    | some o => exact pending
    | none =>
      obtain ⟨-, clear, -⟩ := placementRefusal_none refusal
      simp [clear] at latched

theorem leaveGroup_faultsAgree (grouped : (s.axis n).group.isSome = true) (sound : FaultsAgree s) :
    FaultsAgree (leaveGroup s n .uncoupled) := by
  refine sound.update n (fun m other => ⟨?_, ?_, ?_, ?_, ?_⟩) fun own => ?_
  · simp [other]
  · simp [other]
  · simp [State.latch]
  · simp
  · simp [leaveGroup_slot, other]
  · obtain ⟨-, hold, entry, set⟩ := own
    have clear : (s.latch n).state ≠ .set := fun latched => by simp [(set latched).2] at grouped
    have latch : (leaveGroup s n .uncoupled).latch n = s.latch n := by simp [State.latch]
    have holds : (leaveGroup s n .uncoupled).holds = s.holds := by simp
    unfold FaultAgreesAt
    rw [latch, holds]
    exact ⟨by simp [AxisRecord.uncouple, clear], hold, entry, fun latched => absurd latched clear⟩

theorem concludeDirective_faultsAgree (o : DirectiveOutcome) (sound : FaultsAgree s) :
    FaultsAgree (concludeDirective s n o) := by
  refine sound.update n (fun m other => ⟨?_, ?_, ?_, ?_, ?_⟩) fun own => ?_
  · simp [State.axis]
  · simp [State.axis]
  · simp [State.latch]
  · simp
  · simp [concludeDirective_slot, other]
  · obtain ⟨sync, hold, entry, set⟩ := own
    refine ⟨by simpa [State.axis, State.latch] using sync, by simpa [State.latch] using hold, by simpa using entry, ?_⟩
    intro latched
    have latched : (s.latch n).state = .set := by simpa [State.latch] using latched
    exact ⟨by simp [concludeDirective_slot], by simpa [State.axis] using (set latched).2⟩

theorem applyEngage_axes (s : State) (g : Group) :
    (applyEngage s n g).axes =
      s.axes.set n
        { s.axis n with group := some g, sync := .acquiring, lockCount := 0, slipCount := 0, speedError := 0 } := rfl

/-- The slot of an axis whose ENGAGE is applied: concluded, with its engage history (R86, R103). -/
theorem applyEngage_slots (s : State) (g : Group) :
    (applyEngage s n g).directives.slots =
      s.directives.slots.set n
        { s.slot n with
          pending := none, outcome := .applied, outcomeFrame := s.clock.f, engaged := some s.clock.f } := by
  refine Four.ext_get _ _ fun m => ?_
  simp only [applyEngage, concludeDirective, State.setOrder, State.setSlot, State.setAxis, State.slot, Four.get_set]
  split <;> simp

theorem applyEngage_axis (s : State) (m : Axis) (g : Group) :
    (applyEngage s n g).axis m =
      if m = n then
        { s.axis n with group := some g, sync := .acquiring, lockCount := 0, slipCount := 0, speedError := 0 }
      else s.axis m := by
  unfold State.axis
  rw [applyEngage_axes, Four.get_set]
  rfl

theorem applyEngage_slot (s : State) (m : Axis) (g : Group) :
    (applyEngage s n g).slot m =
      if m = n then
        { s.slot n with
          pending := none, outcome := .applied, outcomeFrame := s.clock.f, engaged := some s.clock.f }
      else s.slot m := by
  unfold State.slot
  rw [applyEngage_slots, Four.get_set]
  rfl

theorem applyEngage_faultsAgree (g : Group) (placed : placementRefusal s n (.engage g) = none) (sound : FaultsAgree s) :
    FaultsAgree (applyEngage s n g) := by
  refine sound.update n (fun m other => ⟨?_, ?_, ?_, ?_, ?_⟩) fun own => ?_
  · simp [applyEngage_axis, other]
  · simp [applyEngage_axis, other]
  · simp [State.latch]
  · simp
  · simp [applyEngage_slot, other]
  · obtain ⟨-, clear, -⟩ := placementRefusal_none placed
    obtain ⟨-, hold, entry, -⟩ := own
    have latch : (applyEngage s n g).latch n = s.latch n := by simp [State.latch]
    have holds : (applyEngage s n g).holds = s.holds := by simp
    unfold FaultAgreesAt
    rw [latch, holds]
    exact ⟨by simp [applyEngage_axis, clear], hold, entry, fun latched => by simp [clear] at latched⟩

theorem raiseCause_faultsAgree (c : Cause) (code : Option Byte) (sound : FaultsAgree s) :
    FaultsAgree (raiseCause s n c code) := by
  have hold_at (m : Axis) : (raiseCause s n c code).holds.get (.axis m) =
      if m = n ∧ (s.latch n).state = .clear then some (faultHold s c) else s.holds.get (.axis m) := by
    rw [raiseCause_holds]
    by_cases clear : (s.latch n).state = .clear <;> simp [clear, HoldSet.get_put]
  refine sound.update n (fun m other => ⟨?_, ?_, ?_, ?_, ?_⟩) fun own => ?_
  · simp [raiseCause_axis, other]
  · simp [raiseCause_axis, other]
  · simp [raiseCause_latch_state, other]
  · simp [hold_at, other]
  · simp [raiseCause_pending, other]
  · unfold FaultAgreesAt
    rw [raiseCause_latch_state, raiseCause_axis, raiseCause_pending, hold_at]
    cases state : (s.latch n).state with
    | clear => simp [AxisRecord.uncouple, faultHold]
    | set =>
      obtain ⟨sync, hold, entry, set⟩ := own
      simp only [reduceCtorEq, and_false, if_false, if_true]
      exact ⟨by simp [sync, state], by simp [hold, state], entry, fun _ => set state⟩

/-- A record that stays in its group, and coupled where it was. -/
theorem setAxis_faultsAgree (r : AxisRecord) (group : r.group = (s.axis n).group)
    (sync : r.sync = (s.axis n).sync ∨ (s.axis n).sync.coupled = true ∧ r.sync.coupled = true) (sound : FaultsAgree s) :
    FaultsAgree (s.setAxis n r) := by
  refine sound.update n (fun m other => ⟨?_, ?_, ?_, ?_, ?_⟩) fun own => ?_
  · simp [other]
  · simp [other]
  · simp [State.latch]
  · simp
  · simp [State.slot]
  · obtain sync | ⟨coupled, stays⟩ := sync
    · exact SameFault.agrees (s := s) ⟨by simp [sync], by simp [group], by simp [State.latch], by simp,
        by simp [State.slot]⟩ own
    · obtain ⟨faulted, hold, entry, set⟩ := own
      have clear : (s.latch n).state ≠ .set := fun latched => by
        simp [faulted.mpr latched, SyncState.coupled] at coupled
      have notFaulted : r.sync ≠ .faulted := fun f => by simp [f, SyncState.coupled] at stays
      have latch : (s.setAxis n r).latch n = s.latch n := by simp [State.latch]
      have holds : (s.setAxis n r).holds = s.holds := by simp
      unfold FaultAgreesAt
      rw [latch, holds]
      exact ⟨by simp [notFaulted, clear], hold, entry, fun latched => absurd latched clear⟩

theorem faultsAgree_linkStable : LinkStable FaultsAgree where
  axis _ n r same sound := setAxis_faultsAgree n r same.group same.sync sound
  link s n l _ sound := sound.of_fields (by simp) (by simp) (by simp) (by simp)
  loss s x sound := sound.of_fields rfl rfl rfl rfl
  cause s n c code sound := raiseCause_faultsAgree n c code sound
  slipOpened s n sound := sound.of_fields (by simp) (by simp) (by simp) (by simp)
  slipClosed s n sound := sound.of_fields (by simp) (by simp) (by simp) (by simp)

theorem faultsAgree_linkFree (s : State) (n : Axis) (l : DriveLink) (sound : FaultsAgree s) :
    FaultsAgree (s.setLink n l) := sound.of_fields (by simp) (by simp) (by simp) (by simp)

theorem faultsAgree_placementStable : PlacementStable FaultsAgree where
  congr _ _ axes latches holds directives sound := sound.of_fields axes latches holds directives
  place _ n action sound := placeDirective_faultsAgree n action sound

theorem faultsAgree_directiveStable : DirectiveStable FaultsAgree where
  leave _ n grouped sound := leaveGroup_faultsAgree n grouped sound
  conclude _ n o _ sound := concludeDirective_faultsAgree n o sound
  engage _ n g _ placed sound := applyEngage_faultsAgree n g placed sound

/-! ## Holds -/

/-- Only the external entries change: the AXISn entries are those of before. -/
theorem FaultsAgree.of_axisHolds {s t : State} (sound : FaultsAgree s) (axes : t.axes = s.axes)
    (latches : t.latches = s.latches) (holds : ∀ n : Axis, t.holds.get (.axis n) = s.holds.get (.axis n))
    (directives : t.directives = s.directives) : FaultsAgree t :=
  sound.of_same fun n =>
    ⟨by rw [State.axis_congr n axes], by rw [State.axis_congr n axes], by rw [State.latch_congr n latches], holds n,
      congrArg DirectiveSlot.pending (State.slot_congr n (congrArg DirectiveUnit.slots directives))⟩

end

end Sys2Proof.Machine

/-!
PROOF. Every step keeps the agreement of an axis fault's three faces, the fields of the fault latches and the coupling's
conditions (R67, R80, R94, R166).
-/
namespace Sys2Proof.Machine
open Sys2Proof

/-! ## The requests that write holds -/

/-- HOLD changes nothing, or places the sender's entry (R61, R62). -/
theorem holdRequest_state_cases (src : Sender) (p : Payload HoldFields) (s : State) :
    (holdRequest src p s).state = s ∨
    ∃ e : HoldEntry, (∀ x ∈ e.expiry, s.clock.f < x) ∧
      (holdRequest src p s).state = s.setHold (.external src) (some e) := by
  unfold holdRequest
  split
  case h_1 => exact .inl rfl
  case h_2 h =>
    split
    case h_1 => exact .inl rfl
    case h_2 scope _ =>
      split
      case isTrue => exact .inl rfl
      case isFalse inRange =>
        refine .inr ⟨_, fun x expires => ?_, rfl⟩
        obtain ⟨d, duration, rfl⟩ : ∃ d, h.duration = some d ∧ s.clock.f + d = x := by simpa using expires
        have : 1 ≤ d := by
          by_contra zero
          exact inRange ⟨d, duration, fun good => zero good.1⟩
        omega

/-- RELEASE and RELEASE HOLDER change nothing, or remove external entries (R64, R66). -/
theorem removeExternal_state_cases (s : State) (who : Sender) :
    (removeExternal s who).state = s ∨ (removeExternal s who).state = s.setHold (.external who) none := by
  unfold removeExternal
  split
  · exact .inr rfl
  · exact .inl rfl

theorem releaseRequest_state_cases (src : Sender) (p : Payload Unit) (s : State) :
    (releaseRequest src p s).state = s ∨ (releaseRequest src p s).state = s.setHold (.external src) none := by
  cases p with
  | misfit => exact .inl rfl
  | fits x => exact removeExternal_state_cases s src

theorem releaseHolderRequest_state_cases (p : Payload HolderTarget) (s : State) :
    (releaseHolderRequest p s).state = s ∨ (∃ who, (releaseHolderRequest p s).state = s.setHold (.external who) none) ∨
      (releaseHolderRequest p s).state = clearExternal s := by
  unfold releaseHolderRequest
  split
  · exact .inl rfl
  · split
    · exact (removeExternal_state_cases s _).imp id fun removed => .inl ⟨_, removed⟩
    · exact .inl rfl
    · exact .inr (.inr rfl)
    · exact .inl rfl

/-- A property that reads the AXISn entries alone is kept by a write of an external entry. -/
theorem FaultsAgree.setHold_external {s : State} (sound : FaultsAgree s) (src : Sender) (e : Option HoldEntry) :
    FaultsAgree (s.setHold (.external src) e) :=
  sound.of_axisHolds (by simp) (by simp) (by simp [HoldSet.get_put]) (by simp)

theorem holdRequest_faultsAgree (src : Sender) (p : Payload HoldFields) {s : State} (sound : FaultsAgree s) :
    FaultsAgree (holdRequest src p s).state := by
  obtain same | ⟨e, -, same⟩ := holdRequest_state_cases src p s
  · rw [same]; exact sound
  · rw [same]; exact sound.setHold_external _ _

theorem releaseRequest_faultsAgree (src : Sender) (p : Payload Unit) {s : State} (sound : FaultsAgree s) :
    FaultsAgree (releaseRequest src p s).state := by
  obtain same | same := releaseRequest_state_cases src p s
  · rw [same]; exact sound
  · rw [same]; exact sound.setHold_external _ _

theorem releaseHolderRequest_faultsAgree (p : Payload HolderTarget) {s : State} (sound : FaultsAgree s) :
    FaultsAgree (releaseHolderRequest p s).state := by
  obtain same | ⟨who, same⟩ | same := releaseHolderRequest_state_cases p s
  · rw [same]; exact sound
  · rw [same]; exact sound.setHold_external _ _
  · rw [same]; exact sound.of_axisHolds rfl rfl (fun _ => rfl) rfl

/-! ## The soft reset, axis by axis -/

section
variable (s : State) (n : Axis)

theorem softReset_axis : (softReset s).axis n = (s.axis n).soft := Four.get_map _ _ _
theorem softReset_latch : (softReset s).latch n = (s.latch n).soft := Four.get_map _ _ _
theorem softReset_slot : (softReset s).slot n = (s.slot n).soft := Four.get_map _ _ _
theorem softReset_link : (softReset s).link n = (s.link n).soft := Four.get_map _ _ _
theorem softReset_hold :
    (softReset s).holds.get (.axis n) = (s.holds.get (.axis n)).map fun e => { e with placed := 0 } := Four.get_map _ _ _

end

/-- RESET changes nothing, or, in IDLE, resets every block (R199). -/
theorem resetRequest_state_cases (p : Payload Unit) (s : State) :
    (resetRequest p s).state = s ∨ s.schedule.state = .idle ∧ (resetRequest p s).state = softReset s := by
  unfold resetRequest
  split
  · exact .inl rfl
  · split
    case isTrue idle => exact .inr ⟨idle, rfl⟩
    case isFalse => exact .inl rfl

theorem AxisRecord.soft_faulted_iff (a : AxisRecord) : a.soft.sync = .faulted ↔ a.sync = .faulted := by
  simp [AxisRecord.soft, AxisRecord.uncouple]

theorem softReset_faultsAgree {s : State} (sound : FaultsAgree s) : FaultsAgree (softReset s) := by
  intro n
  obtain ⟨sync, hold, entry, -⟩ := sound n
  rw [softReset_axis, softReset_latch, softReset_slot, softReset_hold]
  refine ⟨by rw [AxisRecord.soft_faulted_iff]; exact sync, by rw [Option.isSome_map]; exact hold, fun e he => ?_,
    fun _ => ⟨rfl, rfl⟩⟩
  obtain ⟨before, present, rfl⟩ := Option.mem_map.mp he
  exact entry before present

/-! ## READ FAULT and CLEAR FAULT (R170 to R172) -/

theorem readFaultRequest_state_cases (p : Payload Nat) (s : State) :
    (readFaultRequest p s).state = s ∨
    ∃ n, (s.latch n).state = .set ∧ (readFaultRequest p s).state = s.setLatch n { s.latch n with armed := true } := by
  unfold readFaultRequest
  split
  · exact .inl rfl
  · split
    · exact .inl rfl
    · next n _ =>
      by_cases set : (s.latch n).state = .set
      · exact .inr ⟨n, set, by simp [armLatch, set]⟩
      · exact .inl (by simp [armLatch, set])

theorem clearFaultRequest_state_cases (p : Payload Nat) (s : State) :
    (clearFaultRequest p s).state = s ∨
    ∃ n, (s.latch n).state = .set ∧ (clearFaultRequest p s).state = clearFault s n := by
  unfold clearFaultRequest
  split
  · exact .inl rfl
  · split
    · exact .inl rfl
    · split
      · exact .inl rfl
      · next armed =>
        split
        · exact .inl rfl
        · exact .inr ⟨_, (not_not.mp armed).1, rfl⟩

section
variable (s : State) (n m : Axis)

@[simp] theorem clearFault_axis :
    (clearFault s n).axis m = if m = n then (s.axis n).uncouple .uncoupled else s.axis m := by
  unfold State.axis clearFault
  simp [State.axis, Four.get_set]

@[simp] theorem clearFault_latch :
    (clearFault s n).latch m = if m = n then { FaultLatch.atReset with lastClear := some s.clock.f } else s.latch m := by
  unfold State.latch clearFault
  simp [Four.get_set]

@[simp] theorem clearFault_hold (who : Holder) :
    (clearFault s n).holds.get who = if who = .axis n then none else s.holds.get who := by
  unfold clearFault
  simp [HoldSet.get_put]

end

theorem clearFault_faultsAgree {s : State} (n : Axis) (sound : FaultsAgree s) : FaultsAgree (clearFault s n) := by
  refine sound.update n (fun m other => ⟨?_, ?_, ?_, ?_, ?_⟩) fun _ => ?_
  · simp [other]
  · simp [other]
  · simp [other]
  · simp [other]
  · simp [State.slot]
  · simp [FaultAgreesAt, AxisRecord.uncouple, FaultLatch.atReset]

theorem setLatch_faultsAgree {s : State} {n : Axis} (l : FaultLatch) (state : l.state = (s.latch n).state)
    (sound : FaultsAgree s) : FaultsAgree (s.setLatch n l) := by
  refine sound.of_same fun m => ⟨by simp [State.axis], by simp [State.axis], ?_, by simp, by simp [State.slot]⟩
  rw [State.latch_setLatch]
  split
  case isTrue same => rw [same, state]
  case isFalse => rfl

theorem setAxisRequest_state_cases (p : Payload AxisFields) (s : State) :
    (setAxisRequest p s).state = s ∨
    ∃ n mode forceLimit rollerMass, (setAxisRequest p s).state = applyAxis s n mode forceLimit rollerMass := by
  unfold setAxisRequest
  split
  · exact .inl rfl
  · split
    · exact .inl rfl
    · split
      · split
        · exact .inr ⟨_, _, _, _, rfl⟩
        · exact .inl rfl
      · exact .inl rfl

theorem setAxisRequest_faultsAgree (p : Payload AxisFields) {s : State} (sound : FaultsAgree s) :
    FaultsAgree (setAxisRequest p s).state := by
  obtain same | ⟨n, mode, forceLimit, rollerMass, same⟩ := setAxisRequest_state_cases p s
  · rw [same]; exact sound
  · rw [same]
    exact faultsAgree_directiveStable.applyAxis n mode forceLimit rollerMass
      (faultsAgree_linkFree _ _ _ (setAxis_faultsAgree n _ rfl (.inl rfl) sound))

/-! ## The agreement is kept -/

theorem faultsAgree_miswire (s : State) (n : Axis) (sound : FaultsAgree s) : FaultsAgree (miswire s n) :=
  faultsAgree_linkStable.miswire n faultsAgree_linkFree sound

theorem Request.faultsAgree {h : State → Served} (request : Request h) {s : State} (sound : FaultsAgree s) :
    FaultsAgree (h s).state := by
  cases request with
  | reset p =>
    obtain same | ⟨-, same⟩ := resetRequest_state_cases p s
    · rw [same]; exact sound
    · rw [same]; exact softReset_faultsAgree sound
  | hold src p => exact holdRequest_faultsAgree src p sound
  | release src p => exact releaseRequest_faultsAgree src p sound
  | releaseHolder p => exact releaseHolderRequest_faultsAgree p sound
  | setAxis p => exact setAxisRequest_faultsAgree p sound
  | couple p => exact faultsAgree_placementStable.coupleRequest p sound
  | setGuards p =>
    refine sound.of_same fun n => ⟨by simp [State.axis], by simp [State.axis], by simp [State.latch], by simp, ?_⟩
    unfold setGuardsRequest
    split
    · rfl
    · split
      · rfl
      · split <;> rfl
  | readFault p =>
    obtain same | ⟨n, -, same⟩ := readFaultRequest_state_cases p s
    · rw [same]; exact sound
    · rw [same]; exact setLatch_faultsAgree _ rfl sound
  | clearFault p =>
    obtain same | ⟨n, -, same⟩ := clearFaultRequest_state_cases p s
    · rw [same]; exact sound
    · rw [same]; exact clearFault_faultsAgree n sound
  | hello n payload => exact faultsAgree_linkStable.helloRequest n faultsAgree_miswire payload sound
  | poll n payload => exact faultsAgree_linkStable.pollRequest n faultsAgree_miswire payload sound
  | reads h nothing => exact (nothing s).symm ▸ sound
  | _ => exact sound.of_fields (by simp) (by simp) (by simp) (by simp)

/-- An AXISn entry never expires (R67), so an expiry leaves them. -/
theorem expireHold_faultsAgree {s : State} (who : Holder) (sound : FaultsAgree s) : FaultsAgree (expireHold s who) := by
  refine sound.of_axisHolds (by simp) (by simp) (fun n => ?_) (by simp)
  unfold expireHold
  split
  case h_1 => rfl
  case h_2 e held =>
    split
    case isTrue expires =>
      have other : Holder.axis n ≠ who := by
        rintro rfl
        have := ((sound n).2.2.1 e held).2
        simp [this] at expires
      dsimp only
      split <;> simp [HoldSet.get_put, other]
    case isFalse => rfl

theorem react_faultsAgree (r : Reaction) {s : State} (sound : FaultsAgree s) : FaultsAgree (react r s) := by
  cases r with
  | schedule => exact faultsAgree_placementStable.scheduleReaction sound
  | directives => exact faultsAgree_directiveStable.directivesReaction sound
  | holds => exact foldl_property FaultsAgree _ (fun _ who => expireHold_faultsAgree who) _ _ sound
  | link n => exact faultsAgree_linkStable.linkReaction n faultsAgree_linkFree sound
  | trace => exact sound.of_fields (by simp [react]) (by simp [react]) (by simp [react]) (by simp [react])
  | limit => exact sound.of_fields (by simp [react]) (by simp [react]) (by simp [react]) (by simp [react])

theorem assertSafeStop_faultsAgree {s : State} (sound : FaultsAgree s) : FaultsAgree (assertSafeStop s) := by
  have latched : FaultsAgree { s with safety := .safeAsserted, safeStopAsserted := true } :=
    sound.of_fields rfl rfl rfl rfl
  unfold assertSafeStop
  dsimp only
  split
  · exact latched
  · exact faultsAgree_directiveStable.safeStopReactions
      (latched.of_fields (by simp) (by simp) (by simp) (by simp)) latched

theorem atReset_faultsAgree (asserted : Bool) : FaultsAgree (State.atReset asserted) := by
  intro n
  have axis : (State.atReset asserted).axis n = .atReset := Four.get_all _ _
  have latch : (State.atReset asserted).latch n = .atReset := Four.get_all _ _
  have hold : (State.atReset asserted).holds.get (.axis n) = none := Four.get_all _ _
  rw [axis, latch, hold]
  simp [AxisRecord.atReset, FaultLatch.atReset]

theorem faultsAgree_stable : Stable FaultsAgree where
  receiver _ _ _ sound := sound.of_fields (by simp) (by simp) (by simp) (by simp)
  taken _ r _ sound := react_faultsAgree r (sound.of_fields rfl rfl rfl rfl)
  begins _ _ _ sound := sound.of_fields rfl rfl rfl rfl
  request _ request _ _ sound := request.faultsAgree sound
  broken _ n _ sound := faultsAgree_linkStable.loseLink n faultsAgree_linkFree sound
  asserted _ sound := assertSafeStop_faultsAgree sound
  deasserted _ sound := sound.of_fields rfl rfl rfl rfl
  outputs _ _ _ _ sound := sound.of_fields rfl rfl rfl rfl
  position _ _ _ _ sound := sound.of_fields rfl rfl rfl rfl
  drawn _ _ sound := sound.of_fields rfl rfl rfl rfl
  held _ sound := sound.of_fields rfl rfl rfl rfl
  full asserted _ _ := (atReset_faultsAgree asserted).of_fields rfl rfl rfl rfl

end Sys2Proof.Machine

/-!
PROOF. Every step keeps the fields of the fault latches (R166) and the coupling's conditions (R80): in a group exactly while
coupled, and coupled only in mode ROAD on an UP link with a clear latch and the safety latch NORMAL.
-/
namespace Sys2Proof.Machine
open Sys2Proof

/-! ## The fault latches -/

theorem softReset_latchesSound {s : State} (sound : LatchesSound s) : LatchesSound (softReset s) := by
  intro n
  obtain ⟨clear, set⟩ := sound n
  rw [softReset_latch]
  refine ⟨fun state => ?_, fun state => ?_⟩
  · have state : (s.latch n).state = .clear := state
    obtain ⟨cause, frame, code, seen, -⟩ := clear state
    exact ⟨cause, by simp [FaultLatch.soft, state, frame], code, seen, rfl⟩
  · have state : (s.latch n).state = .set := state
    exact ⟨(set state).1, by simp [FaultLatch.soft, state]⟩

theorem clearFault_latchesSound {s : State} (n : Axis) (sound : LatchesSound s) : LatchesSound (clearFault s n) := by
  intro m
  rw [clearFault_latch]
  split
  · simp [FaultLatch.atReset]
  · exact sound m

theorem Request.latchesSound {h : State → Served} (request : Request h) {s : State} (sound : LatchesSound s) :
    LatchesSound (h s).state := by
  cases request with
  | reset p =>
    obtain same | ⟨-, same⟩ := resetRequest_state_cases p s
    · rw [same]; exact sound
    · rw [same]; exact softReset_latchesSound sound
  | readFault p =>
    obtain same | ⟨n, set, same⟩ := readFaultRequest_state_cases p s
    · rw [same]; exact sound
    · rw [same]
      exact setLatch_latchesSound s n _ sound ⟨fun clear => by simp [set] at clear, (sound n).2⟩
  | clearFault p =>
    obtain same | ⟨n, -, same⟩ := clearFaultRequest_state_cases p s
    · rw [same]; exact sound
    · rw [same]; exact clearFault_latchesSound n sound
  | hello n payload =>
    unfold helloRequest
    split
    · exact sound
    · split
      · exact sound
      · split
        · exact miswire_latchesSound s n sound
        · split
          · exact sound.of_latches _ _ (by simp)
          · exact sound
  | poll n payload =>
    unfold pollRequest
    split
    · exact sound
    · split
      · exact sound
      · split
        · exact miswire_latchesSound s n sound
        · exact (deliver_latchesSound _ n _ _ _ (sound.of_latches _ _ (State.setLink_keeps s n _).2.2.2.2.2.2.2.2.2.2.2.2.1))
  | reads h nothing => exact (nothing s).symm ▸ sound
  | _ => exact sound.of_latches _ _ (by simp)

theorem react_latchesSound (r : Reaction) {s : State} (sound : LatchesSound s) : LatchesSound (react r s) := by
  cases r with
  | link n =>
    change LatchesSound (linkReaction s n)
    unfold linkReaction
    split
    · exact loseLink_latchesSound s n sound
    · exact sound
  | _ => exact sound.of_latches _ _ (by simp [react])

theorem atReset_latchesSound (asserted : Bool) : LatchesSound (State.atReset asserted) := fun n => by
  have latch : (State.atReset asserted).latch n = .atReset := Four.get_all _ _
  rw [latch]
  simp [FaultLatch.atReset]

theorem latchesSound_stable : Stable LatchesSound where
  receiver _ _ _ sound := sound.of_latches _ _ (by simp)
  taken _ r _ sound := react_latchesSound r (sound.of_latches _ _ rfl)
  begins _ _ _ sound := sound.of_latches _ _ rfl
  request _ request _ _ sound := request.latchesSound sound
  broken s n _ sound := loseLink_latchesSound s n sound
  asserted _ sound := sound.of_latches _ _ (by simp)
  deasserted _ sound := sound.of_latches _ _ rfl
  outputs _ _ _ _ sound := sound.of_latches _ _ rfl
  position _ _ _ _ sound := sound.of_latches _ _ rfl
  drawn _ _ sound := sound.of_latches _ _ rfl
  held _ sound := sound.of_latches _ _ rfl
  full asserted _ _ := atReset_latchesSound asserted

/-! ## The coupling at one axis -/

/-- `CouplingSound` at one axis. -/
def CouplingAt (s : State) (n : Axis) : Prop :=
  ((s.axis n).group.isSome = true ↔ (s.axis n).sync.coupled = true) ∧
  ((s.axis n).sync.coupled = true →
    (s.axis n).mode = .road ∧ (s.link n).state = .up ∧ (s.latch n).state = .clear ∧ s.safety = .normal)

/-- An axis in no group that is not coupled needs nothing. -/
theorem CouplingAt.of_alone {s : State} {n : Axis} (group : (s.axis n).group = none)
    (sync : (s.axis n).sync = .uncoupled ∨ (s.axis n).sync = .faulted) : CouplingAt s n := by
  have notCoupled : (s.axis n).sync.coupled = false := by rcases sync with h | h <;> rw [h] <;> rfl
  exact ⟨by simp [group, notCoupled], fun coupled => by simp [notCoupled] at coupled⟩

/-- What the coupling's conditions read at an axis is the same in two states. -/
structure SameCoupled (s t : State) (n : Axis) : Prop where
  group : (t.axis n).group = (s.axis n).group
  sync : (t.axis n).sync = (s.axis n).sync
  mode : (t.axis n).mode = (s.axis n).mode
  link : (t.link n).state = (s.link n).state
  latch : (t.latch n).state = (s.latch n).state
  safety : t.safety = s.safety

theorem SameCoupled.coupling {s t : State} {n : Axis} (same : SameCoupled s t n) (sound : CouplingAt s n) :
    CouplingAt t n := by
  unfold CouplingAt
  rw [same.group, same.sync, same.mode, same.link, same.latch, same.safety]
  exact sound

namespace CouplingSound
variable {s t : State}

theorem couplingAt (sound : CouplingSound s) (n : Axis) : CouplingAt s n := sound n

theorem of_fields (sound : CouplingSound s) (axes : t.axes = s.axes) (links : t.links = s.links)
    (latches : t.latches = s.latches) (safety : t.safety = s.safety) : CouplingSound t := fun n =>
  SameCoupled.coupling
    ⟨by rw [State.axis_congr n axes], by rw [State.axis_congr n axes], by rw [State.axis_congr n axes],
      by rw [State.link_congr n links], by rw [State.latch_congr n latches], safety⟩
    (sound n)

/-- An operation on axis n: it is judged at n. -/
theorem update (n : Axis) (sound : CouplingSound s) (others : ∀ m, m ≠ n → SameCoupled s t m)
    (own : CouplingAt s n → CouplingAt t n) : CouplingSound t := by
  intro m
  by_cases same : m = n
  · exact same ▸ own (sound n)
  · exact (others m same).coupling (sound m)

/-- Where nothing is coupled, the states of links and latches, the modes and the safety latch do not matter. -/
theorem of_alone (alone : ∀ n, (t.axis n).group = none ∧ ((t.axis n).sync = .uncoupled ∨ (t.axis n).sync = .faulted)) :
    CouplingSound t := fun n =>
  CouplingAt.of_alone (alone n).1 (alone n).2

end CouplingSound

/-- The sync states that are not coupled. -/
theorem SyncState.not_coupled {x : SyncState} (h : ¬ x.coupled = true) : x = .uncoupled ∨ x = .faulted := by
  cases x <;> simp [SyncState.coupled] at h ⊢

theorem CouplingAt.alone {s : State} {n : Axis} (sound : CouplingAt s n) (group : (s.axis n).group = none) :
    (s.axis n).sync = .uncoupled ∨ (s.axis n).sync = .faulted :=
  SyncState.not_coupled fun coupled => by simpa [group] using sound.1.mpr coupled

/-! ## The operations -/

section
variable {s : State} (n : Axis)

/-- A release, whatever the mode, the link and the safety latch have become. -/
theorem leaveGroup_couplingAt (sync : SyncState) (uncoupled : sync = .uncoupled ∨ sync = .faulted) :
    CouplingAt (leaveGroup s n sync) n :=
  .of_alone (by simp [AxisRecord.uncouple]) (by simpa [AxisRecord.uncouple] using uncoupled)

theorem leaveGroup_sameCoupled (sync : SyncState) (m : Axis) (other : m ≠ n) : SameCoupled s (leaveGroup s n sync) m :=
  ⟨by simp [other], by simp [other], by simp [other], by simp [State.link], by simp [State.latch], by simp⟩

theorem couplingSound_directiveStable : DirectiveStable CouplingSound where
  leave s n _ sound :=
    sound.update n (leaveGroup_sameCoupled n _) fun _ => leaveGroup_couplingAt n _ (.inl rfl)
  conclude _ n o _ sound := sound.of_fields (by simp) (by simp) (by simp) (by simp)
  engage s n g _ placed sound := by
    refine sound.update n (fun m other => ?_) fun _ => ?_
    · exact ⟨by simp [applyEngage_axis, other], by simp [applyEngage_axis, other], by simp [applyEngage_axis, other],
        by simp [State.link], by simp [State.latch], by simp⟩
    · obtain ⟨safety, clear, road⟩ := placementRefusal_none placed
      obtain ⟨mode, link⟩ := road g rfl
      have latch : (applyEngage s n g).latch n = s.latch n := by simp [State.latch]
      have link_eq : (applyEngage s n g).link n = s.link n := by simp [State.link]
      unfold CouplingAt
      rw [latch, link_eq, applyEngage_axis, if_pos rfl]
      exact ⟨by simp [SyncState.coupled], fun _ => ⟨mode, link, clear, by simpa using safety⟩⟩

/-- At its own axis a cause at a clear latch uncouples; at every other axis it changes nothing. -/
theorem raiseCause_sameCoupled (c : Cause) (code : Option Byte) (m : Axis) (other : m ≠ n) :
    SameCoupled s (raiseCause s n c code) m :=
  ⟨by simp [raiseCause_axis, other], by simp [raiseCause_axis, other], by simp [raiseCause_axis, other],
    by simp [State.link], by simp [raiseCause_latch_state, other], by simp⟩

theorem raiseCause_couplingAt_of_clear (c : Cause) (code : Option Byte) (clear : (s.latch n).state = .clear) :
    CouplingAt (raiseCause s n c code) n :=
  .of_alone (by simp [raiseCause_axis, clear, AxisRecord.uncouple]) (by simp [raiseCause_axis, clear, AxisRecord.uncouple])

theorem raiseCause_couplingAt_of_alone (c : Cause) (code : Option Byte) (group : (s.axis n).group = none)
    (sync : (s.axis n).sync = .uncoupled ∨ (s.axis n).sync = .faulted) : CouplingAt (raiseCause s n c code) n := by
  cases state : (s.latch n).state with
  | clear => exact raiseCause_couplingAt_of_clear n c code state
  | set => exact .of_alone (by simp [raiseCause_axis, state, group]) (by simpa [raiseCause_axis, state] using sync)

theorem raiseCause_couplingSound (c : Cause) (code : Option Byte) (sound : CouplingSound s) :
    CouplingSound (raiseCause s n c code) := by
  refine sound.update n (raiseCause_sameCoupled n c code) fun own => ?_
  cases group : (s.axis n).group with
  | none => exact raiseCause_couplingAt_of_alone n c code group (own.alone group)
  | some g =>
    obtain ⟨-, -, clear, -⟩ := own.2 (own.1.mp (by simp [group]))
    exact raiseCause_couplingAt_of_clear n c code clear

theorem couplingSound_linkStable : LinkStable CouplingSound where
  axis s n r same sound := by
    refine sound.update n (fun m other => ?_) fun own => ?_
    · exact ⟨by simp [other], by simp [other], by simp [other], by simp [State.link], by simp [State.latch], by simp⟩
    · have link : (s.setAxis n r).link n = s.link n := by simp [State.link]
      have latch : (s.setAxis n r).latch n = s.latch n := by simp [State.latch]
      have coupled : r.sync.coupled = (s.axis n).sync.coupled := by
        obtain sync | ⟨before, after⟩ := same.sync
        · rw [sync]
        · rw [before, after]
      unfold CouplingAt
      rw [link, latch, State.axis_setAxis, if_pos rfl, same.group, same.mode, coupled]
      exact own
  link s n l state sound := by
    refine sound.update n (fun m other => ?_) fun own => ?_
    · exact ⟨by simp [State.axis], by simp [State.axis], by simp [State.axis], by simp [other], by simp [State.latch],
        by simp⟩
    · have axis : (s.setLink n l).axis n = s.axis n := by simp [State.axis]
      have latch : (s.setLink n l).latch n = s.latch n := by simp [State.latch]
      unfold CouplingAt
      rw [axis, latch, State.link_setLink, if_pos rfl]
      refine ⟨own.1, fun coupled => ?_⟩
      obtain ⟨mode, up, clear, safety⟩ := own.2 coupled
      exact ⟨mode, state.elim (fun same => same.trans up) id, clear, by simpa using safety⟩
  loss s x sound := sound.of_fields rfl rfl rfl rfl
  cause s n c code sound := raiseCause_couplingSound n c code sound
  slipOpened s n sound := sound.of_fields (by simp) (by simp) (by simp) (by simp)
  slipClosed s n sound := sound.of_fields (by simp) (by simp) (by simp) (by simp)

end

/-! ## A link that goes down (R151, R161) -/

theorem SameCoupled.trans {s t u : State} {n : Axis} (first : SameCoupled s t n) (second : SameCoupled t u n) :
    SameCoupled s u n :=
  ⟨second.group.trans first.group, second.sync.trans first.sync, second.mode.trans first.mode,
    second.link.trans first.link, second.latch.trans first.latch, second.safety.trans first.safety⟩

/-- The link of axis n has gone down in `t`: a coupled axis needs the cause, and any other may do without it. -/
theorem CouplingSound.linkDown {s t : State} (n : Axis) (c : Cause) (sound : CouplingSound s)
    (others : ∀ m, m ≠ n → SameCoupled s t m) (group : (t.axis n).group = (s.axis n).group)
    (sync : (t.axis n).sync = (s.axis n).sync) (latch : (t.latch n).state = (s.latch n).state) :
    CouplingSound (raiseCause t n c none) ∧ ((s.axis n).group = none → CouplingSound t) := by
  have alone (none_ : (s.axis n).group = none) : (t.axis n).group = none ∧
      ((t.axis n).sync = .uncoupled ∨ (t.axis n).sync = .faulted) := by
    rw [group, sync]
    exact ⟨none_, (sound.couplingAt n).alone none_⟩
  refine ⟨?_, fun none_ => sound.update n others fun _ => .of_alone (alone none_).1 (alone none_).2⟩
  refine sound.update n (fun m other => (others m other).trans (raiseCause_sameCoupled n c none m other)) fun own => ?_
  cases grouped : (s.axis n).group with
  | none => exact raiseCause_couplingAt_of_alone n c none (alone grouped).1 (alone grouped).2
  | some g =>
    obtain ⟨-, -, clear, -⟩ := own.2 (own.1.mp (by simp [grouped]))
    exact raiseCause_couplingAt_of_clear n c none (latch.trans clear)

theorem loseLink_couplingSound {s : State} (n : Axis) (sound : CouplingSound s) : CouplingSound (loseLink s n) := by
  have down := sound.linkDown (t := setStale (s.setLink n { s.link n with state := .lost }) n) n .linkLost
    (fun m other => ⟨by simp [setStale, State.axis, Four.get_set, other], by simp [setStale, State.axis, Four.get_set, other],
      by simp [setStale, State.axis, Four.get_set, other], by simp [State.link, Four.get_set, other], by simp [State.latch], by simp⟩)
    (by simp [setStale, State.axis]) (by simp [setStale, State.axis]) (by simp [State.latch])
  unfold loseLink
  dsimp only
  split
  case isTrue => exact down.1
  case isFalse harmless =>
    refine down.2 ?_
    cases group : (s.axis n).group with
    | none => rfl
    | some g => simp [lossFaults, group] at harmless

theorem miswire_couplingSound (s : State) (n : Axis) (sound : CouplingSound s) : CouplingSound (miswire s n) := by
  unfold miswire
  dsimp only
  refine (sound.linkDown n .miswired (fun m other => ?_) ?_ ?_ ?_).1
  · constructor <;> split <;> simp [setStale, State.axis, State.link, State.latch, Four.get_set, other]
  all_goals split <;> simp [setStale, State.axis, State.latch]

/-! ## SET AXIS and SAFE-STOP (R78, R174) -/

theorem releaseAxis_axis (s : State) (n m : Axis) :
    (releaseAxis s n).axis m =
      if m = n ∧ (s.axis n).group.isSome = true then (s.axis n).uncouple .uncoupled else s.axis m := by
  unfold releaseAxis
  by_cases grouped : (s.axis n).group.isSome = true <;> simp [grouped]

/-- A mode other than ROAD releases the axis, whatever it was. -/
theorem applyAxis_couplingSound {s : State} (n : Axis) (mode : AxisMode) (forceLimit rollerMass : Int)
    (sound : CouplingSound s) : CouplingSound (applyAxis s n mode forceLimit rollerMass) := by
  let t := refreshLimit (s.setAxis n { s.axis n with mode := mode, forceLimit := forceLimit, rollerMass := rollerMass }) n
  have own_axis : t.axis n =
      { s.axis n with mode := mode, forceLimit := forceLimit, rollerMass := rollerMass } := by
    simp [t, State.axis]
  have others (m : Axis) (other : m ≠ n) : SameCoupled s t m := by
    constructor <;> simp [t, refreshLimit, State.axis, State.link, State.latch, Four.get_set, other]
  have link : (t.link n).state = (s.link n).state := by simp [t, refreshLimit, State.link]
  have latch : (t.latch n).state = (s.latch n).state := by simp [t, State.latch]
  change CouplingSound (if mode = .road then t else cancelDirective (releaseAxis t n) n)
  split
  case isTrue road =>
    refine sound.update n others fun own => ?_
    unfold CouplingAt
    rw [own_axis, link, latch]
    exact ⟨own.1, fun coupled => ⟨road, (own.2 coupled).2.1, (own.2 coupled).2.2.1, by simpa [t] using (own.2 coupled).2.2.2⟩⟩
  case isFalse =>
    have released (m : Axis) : (cancelDirective (releaseAxis t n) n).axis m = (releaseAxis t n).axis m := by
      simp [State.axis]
    refine sound.update n (fun m other => (others m other).trans ?_) fun own => ?_
    · exact ⟨by simp [released, releaseAxis_axis, other], by simp [released, releaseAxis_axis, other],
        by simp [released, releaseAxis_axis, other], by simp [State.link], by simp [State.latch], by simp⟩
    · cases grouped : (s.axis n).group with
      | none => exact .of_alone (by simp [released, releaseAxis_axis, own_axis, grouped])
                  (by simpa [released, releaseAxis_axis, own_axis, grouped] using own.alone grouped)
      | some g => exact .of_alone (by simp [released, releaseAxis_axis, own_axis, grouped, AxisRecord.uncouple])
                    (by simp [released, releaseAxis_axis, own_axis, grouped, AxisRecord.uncouple])

/-- Releases of several axes, one by one: each that is grouped has left its group. -/
theorem foldl_releaseAxis_axis (xs : List Axis) (s : State) (n : Axis) :
    (xs.foldl releaseAxis s).axis n =
      if n ∈ xs ∧ (s.axis n).group.isSome = true then (s.axis n).uncouple .uncoupled else s.axis n := by
  induction xs generalizing s with
  | nil => simp
  | cons x xs ih =>
    rw [List.foldl_cons, ih, releaseAxis_axis]
    by_cases same : n = x
    · subst same
      by_cases grouped : (s.axis n).group.isSome = true <;> simp [grouped, AxisRecord.uncouple]
    · simp [same]

/-- Every grouped axis is released by an assertion (R87, R174). -/
theorem safeStopReactions_axis (s : State) (n : Axis) :
    (safeStopReactions s).axis n =
      if (s.axis n).group.isSome = true then (s.axis n).uncouple .uncoupled else s.axis n := by
  have before : (if s.runActive then enterAborted s .safeStop else s).axis n = s.axis n :=
    State.axis_congr n (by split <;> simp)
  have cancelled (u : State) : (Sys2Proof.axes.foldl cancelDirective u).axis n = u.axis n :=
    foldl_keeps (fun v : State => v.axis n) cancelDirective (fun v m => by simp [State.axis]) _ _
  have listed : n ∈ Sys2Proof.axes := by fin_cases n <;> decide
  unfold safeStopReactions
  dsimp only
  rw [cancelled, foldl_releaseAxis_axis, before]
  simp [listed]

theorem assertSafeStop_couplingSound {s : State} (sound : CouplingSound s) : CouplingSound (assertSafeStop s) := by
  unfold assertSafeStop
  dsimp only
  split
  case isTrue already => exact sound.of_fields rfl rfl rfl already.symm
  case isFalse =>
    refine .of_alone fun n => ?_
    have axis : State.axis { s with safety := .safeAsserted, safeStopAsserted := true } n = s.axis n := rfl
    rw [safeStopReactions_axis, axis]
    split
    case isTrue => exact ⟨rfl, .inl rfl⟩
    case isFalse ungrouped =>
      have group : (s.axis n).group = none := by simpa using ungrouped
      exact ⟨group, (sound.couplingAt n).alone group⟩

theorem deassertSafeStop_couplingSound {s : State} (sound : CouplingSound s) : CouplingSound (deassertSafeStop s) := by
  intro n
  obtain ⟨grouped, conditions⟩ := sound n
  refine ⟨grouped, fun coupled => ?_⟩
  obtain ⟨mode, link, clear, normal⟩ := conditions coupled
  exact ⟨mode, link, clear, by simp [deassertSafeStop, normal]⟩

/-! ## The coupling's conditions are kept -/

theorem Request.couplingSound {h : State → Served} (request : Request h) {s : State} (sound : CouplingSound s) :
    CouplingSound (h s).state := by
  cases request with
  | reset p =>
    obtain same | ⟨-, same⟩ := resetRequest_state_cases p s
    · rw [same]; exact sound
    · rw [same]
      refine .of_alone fun n => ?_
      rw [softReset_axis]
      exact ⟨rfl, by simp only [AxisRecord.soft, AxisRecord.uncouple]; split <;> simp⟩
  | setAxis p =>
    obtain same | ⟨n, mode, forceLimit, rollerMass, same⟩ := setAxisRequest_state_cases p s
    · rw [same]; exact sound
    · rw [same]; exact applyAxis_couplingSound n mode forceLimit rollerMass sound
  | readFault p =>
    obtain same | ⟨n, set, same⟩ := readFaultRequest_state_cases p s
    · rw [same]; exact sound
    · rw [same]
      intro m
      refine SameCoupled.coupling (s := s) ⟨by simp [State.axis], by simp [State.axis], by simp [State.axis],
        by simp [State.link], ?_, by simp⟩ (sound m)
      rw [State.latch_setLatch]
      split
      case isTrue same => rw [same]
      case isFalse => rfl
  | clearFault p =>
    obtain same | ⟨n, -, same⟩ := clearFaultRequest_state_cases p s
    · rw [same]; exact sound
    · rw [same]
      refine sound.update n (fun m other => ?_) fun _ => ?_
      · exact ⟨by simp [other], by simp [other], by simp [other], by simp [State.link], by simp [other], by simp⟩
      · exact .of_alone (by simp [AxisRecord.uncouple]) (by simp [AxisRecord.uncouple])
  | ackSafeStop p =>
    intro n
    obtain ⟨grouped, conditions⟩ := sound n
    have axis : (ackSafeStopRequest p s).state.axis n = s.axis n := by simp [State.axis]
    have link : (ackSafeStopRequest p s).state.link n = s.link n := by simp [State.link]
    have latch : (ackSafeStopRequest p s).state.latch n = s.latch n := by simp [State.latch]
    rw [axis, link, latch]
    refine ⟨grouped, fun coupled => ?_⟩
    obtain ⟨mode, up, clear, normal⟩ := conditions coupled
    refine ⟨mode, up, clear, ?_⟩
    cases p with
    | misfit => exact normal
    | fits x => simp [ackSafeStopRequest, normal]
  | hello n payload => exact couplingSound_linkStable.helloRequest n miswire_couplingSound payload sound
  | poll n payload => exact couplingSound_linkStable.pollRequest n miswire_couplingSound payload sound
  | reads h nothing => exact (nothing s).symm ▸ sound
  | _ => exact sound.of_fields (by simp) (by simp) (by simp) (by simp)

theorem react_couplingSound (r : Reaction) {s : State} (sound : CouplingSound s) : CouplingSound (react r s) := by
  cases r with
  | directives => exact couplingSound_directiveStable.directivesReaction sound
  | link n =>
    change CouplingSound (linkReaction s n)
    unfold linkReaction
    split
    · exact loseLink_couplingSound n sound
    · exact sound
  | _ => exact sound.of_fields (by simp [react]) (by simp [react]) (by simp [react]) (by simp [react])

theorem atReset_couplingSound (asserted : Bool) : CouplingSound (State.atReset asserted) :=
  .of_alone fun n => by
    have axis : (State.atReset asserted).axis n = .atReset := Four.get_all _ _
    rw [axis]
    exact ⟨rfl, .inl rfl⟩

theorem couplingSound_stable : Stable CouplingSound where
  receiver _ _ _ sound := sound.of_fields (by simp) (by simp) (by simp) (by simp)
  taken _ r _ sound := react_couplingSound r (sound.of_fields rfl rfl rfl rfl)
  begins _ _ _ sound := sound.of_fields rfl rfl rfl rfl
  request _ request _ _ sound := request.couplingSound sound
  broken _ n _ sound := loseLink_couplingSound n sound
  asserted _ sound := assertSafeStop_couplingSound sound
  deasserted _ sound := deassertSafeStop_couplingSound sound
  outputs _ _ _ _ sound := sound.of_fields rfl rfl rfl rfl
  position _ _ _ _ sound := sound.of_fields rfl rfl rfl rfl
  drawn _ _ sound := sound.of_fields rfl rfl rfl rfl
  held _ sound := sound.of_fields rfl rfl rfl rfl
  full asserted _ _ := atReset_couplingSound asserted

/-- Settles O59: each of the three is stable under everything a step is made of. -/
theorem couplingStaysSound : Obligations.CouplingStaysSound := fun _ _ stepped =>
  ⟨fun agree => step_keeps faultsAgree_stable (fun _ _ sound => sound.of_fields rfl rfl rfl rfl) agree stepped,
    fun latches => step_keeps latchesSound_stable (fun _ _ sound => sound.of_latches _ _ rfl) latches stepped,
    fun coupling => step_keeps couplingSound_stable (fun _ _ sound => sound.of_fields rfl rfl rfl rfl) coupling stepped⟩

end Sys2Proof.Machine

/-!
PROOF. The run record's entries (R182 to R185): the record after an entry is placed, after an episode is opened, and after it
is closed, each as one equation; `closedAt` is the exception list with the entry at one position closed.
-/
namespace Sys2Proof.Machine
open Sys2Proof

/-! ## Entries placed -/

/-- The record with an entry placed at the end of its list, or lost (R183). -/
def RunRecord.place (r : RunRecord) (e : ExceptionEntry) : RunRecord :=
  if r.exceptions.length < 32 then { r with exceptions := r.exceptions ++ [e] } else { r with exceptionOverflow := true }

theorem placeEntry_eq (s : State) (e : ExceptionEntry) : placeEntry s e = { s with record := s.record.place e } := by
  unfold placeEntry RunRecord.place
  split
  case isTrue room => rw [if_pos (show s.record.exceptions.length < 32 from room)]; rfl
  case isFalse full => rw [if_neg (show ¬ s.record.exceptions.length < 32 from full)]; rfl

theorem handEntry_of_active {s : State} (active : s.runActive = true) (e : ExceptionEntry) :
    handEntry s e = placeEntry s e := by
  simp [handEntry, active]

theorem handEntry_of_inactive {s : State} (inactive : s.runActive = false) (e : ExceptionEntry) : handEntry s e = s := by
  simp [handEntry, inactive]

/-- A run is active in ARMED, RUNNING, DWELL and STOPPING (spec/03). -/
theorem runActive_iff (s : State) :
    s.runActive = true ↔
      s.schedule.state = .armed ∨ s.schedule.state = .running ∨ s.schedule.state = .dwell ∨
        s.schedule.state = .stopping := by
  unfold State.runActive ScheduleState.active
  cases s.schedule.state <;> simp

/-! ## Episodes opened -/

/-- The record with an episode's entry placed and, where there was room, its reference written by `refer` (R184). -/
def RunRecord.open (r : RunRecord) (e : ExceptionEntry) (refer : RunRecord → Nat → RunRecord) : RunRecord :=
  if r.exceptions.length < 32 then refer (r.place e) (r.exceptions.length + 1) else r.place e

theorem openingPosition_of_active {s : State} (active : s.runActive = true) :
    openingPosition s = if s.record.exceptions.length < 32 then some (s.record.exceptions.length + 1) else none := by
  simp [openingPosition, active, Config.exceptionCapacity]

section
variable {s : State}

theorem openDwell_of_active (active : s.runActive = true) (kind : ExceptionKind) :
    openDwell s kind =
      { s with
        record := s.record.open (episodeEntry s kind none) fun r p => { r with dwellRef := some p } } := by
  unfold openDwell RunRecord.open
  rw [openingPosition_of_active active, handEntry_of_active active, placeEntry_eq]
  by_cases room : s.record.exceptions.length < 32
  · simp only [room, if_true]; rfl
  · simp only [room, if_false]

theorem openSlip_of_active (active : s.runActive = true) (n : Axis) :
    openSlip s n =
      { s with
        record := s.record.open (episodeEntry s .slip (some n)) fun r p => { r with slipRef := r.slipRef.set n (some p) } } := by
  unfold openSlip RunRecord.open
  rw [openingPosition_of_active active, handEntry_of_active active, placeEntry_eq]
  by_cases room : s.record.exceptions.length < 32
  · simp only [room, if_true]; rfl
  · simp only [room, if_false]

theorem openTrace_of_active (active : s.runActive = true) :
    openTrace s =
      { s with
        record := s.record.open (episodeEntry s .traceDeviation none) fun r p => { r with traceRef := some p } } := by
  unfold openTrace RunRecord.open
  rw [openingPosition_of_active active, handEntry_of_active active, placeEntry_eq]
  by_cases room : s.record.exceptions.length < 32
  · simp only [room, if_true]; rfl
  · simp only [room, if_false]

/-- No episode is opened without a run (R183). -/
theorem openDwell_of_inactive (inactive : s.runActive = false) (kind : ExceptionKind) : openDwell s kind = s := by
  simp [openDwell, openingPosition, handEntry, inactive]

theorem openSlip_of_inactive (inactive : s.runActive = false) (n : Axis) : openSlip s n = s := by
  simp [openSlip, openingPosition, handEntry, inactive]

theorem openTrace_of_inactive (inactive : s.runActive = false) : openTrace s = s := by
  simp [openTrace, openingPosition, handEntry, inactive]

end

/-! ## Episodes closed -/

/-- The exception list with the entry at a position, if there is one, closed at a run frame (R184). -/
def closedAt (frame : Nat) (position : Option Nat) (xs : List ExceptionEntry) : List ExceptionEntry :=
  match position with
  | none => xs
  | some p => xs.modify (p - 1) fun e => { e with closed := some frame }

@[simp] theorem closedAt_none (frame : Nat) (xs : List ExceptionEntry) : closedAt frame none xs = xs := rfl

@[simp] theorem length_closedAt (frame : Nat) (position : Option Nat) (xs : List ExceptionEntry) :
    (closedAt frame position xs).length = xs.length := by
  cases position <;> simp [closedAt]

/-- `ys` is `xs` with the entries at some positions closed, and no other changed. -/
def ClosesAt (frame : Nat) (positions : List (Option Nat)) (xs ys : List ExceptionEntry) : Prop :=
  ∀ i : Nat, ys[i]? = (xs[i]?).map fun e => if some (i + 1) ∈ positions then { e with closed := some frame } else e

theorem closesAt_nil (frame : Nat) (xs : List ExceptionEntry) : ClosesAt frame [] xs xs := by
  intro i
  simp

/-- Closing one position more: positions count from 1 (R184). -/
theorem ClosesAt.closedAt {frame : Nat} {positions : List (Option Nat)} {xs ys : List ExceptionEntry}
    (closes : ClosesAt frame positions xs ys) {position : Option Nat} (counted : position ≠ some 0) :
    ClosesAt frame (position :: positions) xs (closedAt frame position ys) := by
  intro i
  cases position with
  | none => simpa using closes i
  | some p =>
    have p_ne : p ≠ 0 := fun zero => counted (by rw [zero])
    rw [Machine.closedAt, List.getElem?_modify, closes i]
    by_cases here : p - 1 = i
    · have : i + 1 = p := by omega
      cases xs[i]? with
      | none => rfl
      | some e => simp only [here, this, List.mem_cons, true_or, if_true, Option.map_some]; split <;> rfl
    · have : i + 1 ≠ p := by omega
      simp [here, this]

/-- The order in which positions are closed does not matter. -/
theorem ClosesAt.congr {frame : Nat} {positions others : List (Option Nat)} {xs ys : List ExceptionEntry}
    (closes : ClosesAt frame positions xs ys) (same : ∀ p, p ∈ others ↔ p ∈ positions) : ClosesAt frame others xs ys := by
  intro i
  simpa only [same] using closes i

theorem closeEntry_eq (s : State) (position : Option Nat) :
    closeEntry s position =
      { s with
        record := { s.record with exceptions := closedAt s.schedule.runFrame position s.record.exceptions } } := by
  cases position <;> rfl

theorem closeDwell_eq (s : State) :
    closeDwell s =
      { s with
        record :=
          { s.record with
            exceptions := closedAt s.schedule.runFrame s.record.dwellRef s.record.exceptions, dwellRef := none } } := by
  unfold closeDwell
  rw [closeEntry_eq]
  rfl

theorem closeSlip_eq_closedAt (s : State) (n : Axis) :
    closeSlip s n =
      { s with
        record :=
          { s.record with
            exceptions := closedAt s.schedule.runFrame (s.record.slipRef.get n) s.record.exceptions
            slipRef := s.record.slipRef.set n none } } := by
  unfold closeSlip
  rw [closeEntry_eq]
  rfl

theorem closeTrace_eq (s : State) :
    closeTrace s =
      { s with
        record :=
          { s.record with
            exceptions := closedAt s.schedule.runFrame s.record.traceRef s.record.exceptions, traceRef := none } } := by
  unfold closeTrace
  rw [closeEntry_eq]
  rfl

/-- The exception list after the end of a run (R185): the episodes closed one after the other. -/
def closedList (s : State) : List ExceptionEntry :=
  let close := closedAt s.schedule.runFrame
  close s.record.traceRef
    (close (s.record.slipRef.get 3)
      (close (s.record.slipRef.get 2)
        (close (s.record.slipRef.get 1)
          (close (s.record.slipRef.get 0) (close s.record.dwellRef s.record.exceptions)))))

theorem closeEpisodes_eq (s : State) :
    closeEpisodes s =
      { s with
        record :=
          { s.record with exceptions := closedList s, dwellRef := none, slipRef := .all none, traceRef := none } } := by
  unfold closeEpisodes
  simp only [closeTrace_eq, closeSlip_eq_closedAt, closeDwell_eq, closedList, Four.get, Four.set, Four.all]

@[simp] theorem length_closedList (s : State) : (closedList s).length = s.record.exceptions.length := by
  simp [closedList]

/-- Settles O42: placed and handed entries, then the openings with and without room, then the closings, each position being
1 or more. -/
theorem runRecordEntries : Obligations.RunRecordEntries := by
  intro s e n kind placed opening position active
  have active_iff : s.runActive = true ↔ active := runActive_iff s
  have placed_eq (x : ExceptionEntry) : s.record.place x = placed x := rfl
  refine ⟨placeEntry_eq s e, fun run => ?handed, fun run => ?inactive, fun run room => ?room, fun run full => ?full, ?closings⟩
  case handed => rw [handEntry_of_active (active_iff.mpr run), placeEntry_eq, placed_eq]
  case inactive =>
    have inactive : s.runActive = false := Bool.eq_false_iff.mpr (mt active_iff.mp run)
    exact ⟨handEntry_of_inactive inactive e, openDwell_of_inactive inactive kind, openSlip_of_inactive inactive n,
      openTrace_of_inactive inactive⟩
  case room =>
    have run := active_iff.mpr run
    have opened (x : ExceptionEntry) (refer : RunRecord → Nat → RunRecord) :
        s.record.open x refer = refer (placed x) position := if_pos room
    have slipRef (x : ExceptionEntry) : (placed x).slipRef = s.record.slipRef := by
      simp only [placed]
      split <;> rfl
    exact ⟨by rw [openDwell_of_active run, opened]; rfl, by rw [openSlip_of_active run, opened, slipRef]; rfl,
      by rw [openTrace_of_active run, opened]; rfl⟩
  case full =>
    have run := active_iff.mpr run
    have lost (x : ExceptionEntry) (refer : RunRecord → Nat → RunRecord) : s.record.open x refer = placed x :=
      if_neg (by omega)
    exact ⟨by rw [openDwell_of_active run, lost]; rfl, by rw [openSlip_of_active run, lost]; rfl,
      by rw [openTrace_of_active run, lost]; rfl⟩
  case closings =>
    intro closing every counted
    have start := closesAt_nil s.schedule.runFrame s.record.exceptions
    have slip (m : Axis) : s.record.slipRef.get m ≠ some 0 := counted _ (by fin_cases m <;> simp [every])
    have dwell : s.record.dwellRef ≠ some 0 := counted _ (by simp [every])
    have trace : s.record.traceRef ≠ some 0 := counted _ (by simp [every])
    refine ⟨⟨_, closeDwell_eq s, start.closedAt dwell⟩, ⟨_, closeSlip_eq_closedAt s n, start.closedAt (slip n)⟩,
      ⟨_, closeTrace_eq s, start.closedAt trace⟩, ⟨_, closeEpisodes_eq s, ?_⟩⟩
    have all := (((((start.closedAt dwell).closedAt (slip 0)).closedAt (slip 1)).closedAt (slip 2)).closedAt
      (slip 3)).closedAt trace
    refine all.congr fun p => ?_
    simp only [every, List.mem_cons, List.not_mem_nil, or_false]
    tauto

end Sys2Proof.Machine

/-!
PROOF. The engine's reaction as a sequence of operations (R37): what it does in each state of the schedule, and what a
property must survive to be kept by it.
-/
namespace Sys2Proof.Machine
open Sys2Proof

/-! ## The gate -/

theorem gateOpen_head {s : State} (isOpen : gateOpen s = true) : ∃ g rest, s.queue.records = g :: rest := by
  unfold gateOpen at isOpen
  cases records : s.queue.records with
  | nil => simp [records] at isOpen
  | cons g rest => exact ⟨g, rest, rfl⟩

section
variable {s : State} {g : Segment} {rest : List Segment}

theorem takeAtGate_of_closing (records : s.queue.records = g :: rest) (closing : g.kind = .closing) :
    takeAtGate s = enterEnded (takeHead s) := by
  simp [takeAtGate, records, closing]

theorem takeAtGate_of_segment (records : s.queue.records = g :: rest) (segment : g.kind ≠ .closing) :
    takeAtGate s = startSegment s g := by
  unfold takeAtGate
  rw [records]
  dsimp only
  cases kind : g.kind with
  | closing => exact absurd kind segment
  | ramp => rfl
  | stand => rfl

theorem takeHead_queue (records : s.queue.records = g :: rest) :
    (takeHead s).queue =
      { s.queue with records := rest, low := decide (rest.length ≤ s.queue.lowWaterMark) } := by
  simp [takeHead, Queue.withLow, records]

end

/-! ## Schedule writes -/

@[simp] theorem addDistance_state (s : State) : (addDistance s).schedule.state = s.schedule.state := by
  unfold addDistance
  split <;> rfl

@[simp] theorem progress_state (s : State) (a : ActiveSegment) : (progress s a).schedule.state = s.schedule.state := rfl

@[simp] theorem endSegment_schedule (s : State) (g : Segment) :
    (endSegment s g).schedule = { s.schedule with active := none } := by
  unfold endSegment
  dsimp only
  split <;> simp

@[simp] theorem enterDwell_schedule (s : State) :
    (enterDwell s).schedule =
      { s.schedule with
        state := .dwell, active := none, dwellCount := 0
        distance := s.schedule.distance + (s.schedule.virtualSpeed * ((s.clock.n : Int) + 1)).toNat } := by
  simp [enterDwell, addDistance, ScheduleState.underway]

/-- The dwell's entry is judged in the state at the gate (R44). -/
theorem enterDwell_record {s : State} (active : s.runActive = true) :
    (enterDwell s).record =
      { (openDwell s (if s.queue.records = [] then .underrunDwell else .holdDwell)).record with state := .dwell } := by
  have dwelling (u : State) (state : u.schedule.state = .dwell) : u.runActive = true := (runActive_iff u).mpr (by simp [state])
  have distance (u : State) : (addDistance u).record = u.record := by simp
  unfold enterDwell
  rw [distance, openDwell_of_active (dwelling _ rfl), openDwell_of_active active]
  by_cases room : s.record.exceptions.length < 32
  all_goals
    simp only [RunRecord.open, RunRecord.place, State.withSchedule, setScheduleState, State.withRecord,
      ScheduleState.runState, episodeEntry, room, if_true, if_false]

/-! ## What keeps the engine's reaction -/

/-- A property of the queue, the schedule's state, the road load, the record and the safety latch that each of the engine's
operations keeps. -/
structure EngineStable (P : State → Prop) : Prop where
  congr : ∀ s t : State, t.queue = s.queue → t.schedule.state = s.schedule.state → t.road = s.road →
    t.record = s.record → t.safety = s.safety → P s → P t
  /-- A RAMP or STAND starts. -/
  start : ∀ (s : State) (g : Segment) (rest : List Segment), s.queue.records = g :: rest → s.runActive = true → P s →
    P (startSegment s g)
  /-- An END is taken. -/
  taken : ∀ (s : State) (g : Segment) (rest : List Segment), s.queue.records = g :: rest → s.runActive = true → P s →
    P (enterEnded (takeHead s))
  dwell : ∀ s : State, s.runActive = true → P s → P (enterDwell s)
  stop : ∀ s : State, s.schedule.state = .dwell → P s → P (enterStopping s .dwellLimit)
  complete : ∀ s : State, s.schedule.state = .stopping → P s → P (completeStop s)

namespace EngineStable
variable {P : State → Prop} (h : EngineStable P) {s : State}
include h

theorem takeAtGate (isOpen : gateOpen s = true) (active : s.runActive = true) (sound : P s) : P (takeAtGate s) := by
  obtain ⟨g, rest, records⟩ := gateOpen_head isOpen
  by_cases closing : g.kind = .closing
  · rw [takeAtGate_of_closing records closing]
    exact h.taken s g rest records active sound
  · rw [takeAtGate_of_segment records closing]
    exact h.start s g rest records active sound

theorem reactSchedule (sound : P s) : P (reactSchedule s) := by
  have active (states : s.schedule.state = .armed ∨ s.schedule.state = .running ∨ s.schedule.state = .dwell ∨
      s.schedule.state = .stopping) : s.runActive = true := (runActive_iff s).mpr states
  unfold Machine.reactSchedule
  split
  case h_1 => exact sound
  case h_2 => exact sound
  case h_3 => exact sound
  case h_4 armed =>
    unfold reactArmed
    split
    case isTrue isOpen => exact h.takeAtGate isOpen (active (.inl armed)) sound
    case isFalse => exact sound
  case h_5 running =>
    unfold reactRunning
    split
    case h_1 => exact h.congr s _ (by simp) (by simp) (by simp) (by simp) (by simp) sound
    case h_2 a _ =>
      split
      case isTrue => exact h.congr s _ (by simp) (by simp) (by simp) (by simp) (by simp) sound
      case isFalse =>
        have ended : P (endSegment (progress s a) a.record) :=
          h.congr s _ (by simp) (by simp) (by simp) (by simp) (by simp) sound
        have still : (endSegment (progress s a) a.record).runActive = true :=
          (runActive_iff _).mpr (by simp [running])
        unfold passGate
        split
        case isTrue isOpen => exact h.takeAtGate isOpen still ended
        case isFalse => exact h.dwell _ still ended
  case h_6 dwell =>
    unfold reactDwell
    split
    case isTrue isOpen => exact h.takeAtGate isOpen (active (.inr (.inr (.inl dwell)))) sound
    case isFalse =>
      have counted : P (countDwell s) := h.congr s _ rfl rfl rfl rfl rfl sound
      have left (t : State) (ht : P t) : P (addDistance t) := h.congr t _ (by simp) (by simp) (by simp) (by simp) (by simp) ht
      dsimp only
      split
      · exact left _ (h.stop _ dwell counted)
      · exact left _ counted
  case h_7 stopping =>
    have lowered : P (rampDown s) := h.congr s _ rfl rfl rfl rfl rfl sound
    unfold reactStopping
    dsimp only
    split
    · exact h.complete _ stopping lowered
    · exact h.congr (rampDown s) _ (by simp) (by simp) (by simp) (by simp) (by simp) lowered

theorem scheduleReaction (sound : P s) : P (scheduleReaction s) :=
  h.congr (Machine.reactSchedule (clearLines s)) _ rfl rfl rfl rfl rfl
    (h.reactSchedule (h.congr s (clearLines s) rfl rfl rfl rfl rfl sound))

end EngineStable

end Sys2Proof.Machine

/-!
PROOF. What happens to a run outside the engine's reaction: an axis fault and its policy, entries of the record, slips and
deviations, the end at the frame limit and by SAFE-STOP. A property that these parts keep is kept by every other reaction, by
the loss of a link, by a delivery and by the requests made of them.
-/
namespace Sys2Proof.Machine
open Sys2Proof

structure RunStable (P : State → Prop) : Prop where
  /-- The property speaks of the queue, the schedule, the road load, the record and the safety latch alone. -/
  quiet : ∀ s t : State, t.queue = s.queue → t.schedule = s.schedule → t.road = s.road → t.record = s.record →
    t.safety = s.safety → P s → P t
  /-- An entry is placed. -/
  entry : ∀ (s : State) (e : ExceptionEntry), P s → P (placeEntry s e)
  /-- A slip or a deviation starts or ends. -/
  slipOpened : ∀ (s : State) (n : Axis), P s → P (openSlip s n)
  slipClosed : ∀ (s : State) (n : Axis), P s → P (closeSlip s n)
  traceOpened : ∀ s : State, P s → P (openTrace s)
  traceClosed : ∀ s : State, P s → P (closeTrace s)
  /-- An active run is aborted, or one under way is stopped. -/
  abort : ∀ (s : State) (cause : StopCause), s.runActive = true → P s → P (enterAborted s cause)
  stop : ∀ (s : State) (cause : StopCause), s.schedule.state = .running ∨ s.schedule.state = .dwell → P s →
    P (enterStopping s cause)

namespace RunStable
variable {P : State → Prop} (h : RunStable P) {s : State}
include h

theorem handEntry (e : ExceptionEntry) (sound : P s) : P (handEntry s e) := by
  unfold Machine.handEntry
  split
  · exact h.entry _ _ sound
  · exact sound

theorem applyFaultPolicy (sound : P s) : P (applyFaultPolicy s) := by
  obtain same | ⟨-, armed, same⟩ | ⟨-, underWay, same⟩ := applyFaultPolicy_cases s
  · rw [same]; exact sound
  · rw [same]; exact h.abort _ _ ((runActive_iff s).mpr (.inl armed)) sound
  · rw [same]; exact h.stop _ _ underWay sound

theorem leaveGroup (n : Axis) (sync : SyncState) (sound : P s) : P (leaveGroup s n sync) := by
  by_cases slipping : (s.axis n).sync = .slipping
  · exact h.quiet (closeSlip s n) _ (by simp) (by simp) (by simp) (by rw [leaveGroup_record, if_pos slipping]) (by simp)
      (h.slipClosed _ n sound)
  · exact h.quiet s _ (by simp) (by simp) (by simp) (by rw [leaveGroup_record, if_neg slipping]) (by simp) sound

theorem raiseCause (n : Axis) (c : Cause) (code : Option Byte) (sound : P s) : P (raiseCause s n c code) := by
  cases state : (s.latch n).state with
  | clear =>
    have faulted (u : State) (hu : P u) : P (faultedAxis u n c) :=
      h.quiet (Machine.leaveGroup u n .faulted) _ (by simp [faultedAxis]) (by simp [faultedAxis]) (by simp [faultedAxis])
        (by simp [faultedAxis]) (by simp [faultedAxis]) (h.leaveGroup n _ hu)
    rw [raiseCause_clear _ _ _ _ state, faultReactions_eq]
    exact h.applyFaultPolicy (h.handEntry _ (faulted _
      (h.quiet s _ (by simp) (by simp) (by simp) (by simp) (by simp) sound)))
  | set =>
    rw [raiseCause_set _ _ _ _ state]
    exact h.quiet s _ (by simp) (by simp) (by simp) (by simp) (by simp) sound

theorem linkStable : LinkStable P where
  axis s n r _ sound := h.quiet s _ (by simp) (by simp) (by simp) (by simp) (by simp) sound
  link s n l _ sound := h.quiet s _ (by simp) (by simp) (by simp) (by simp) (by simp) sound
  loss s x sound := h.quiet s _ rfl rfl rfl rfl rfl sound
  cause _ n c code sound := h.raiseCause n c code sound
  slipOpened := h.slipOpened
  slipClosed := h.slipClosed

theorem linkFree (s : State) (n : Axis) (l : DriveLink) (sound : P s) : P (s.setLink n l) :=
  h.quiet s _ (by simp) (by simp) (by simp) (by simp) (by simp) sound

theorem directiveStable : DirectiveStable P where
  leave _ n _ sound := h.leaveGroup n _ sound
  conclude s n o _ sound := h.quiet s _ (by simp) (by simp) (by simp) (by simp) (by simp) sound
  engage s n g _ _ sound := h.quiet s _ (by simp) (by simp) (by simp) (by simp) (by simp) sound

theorem miswire (s : State) (n : Axis) (sound : P s) : P (miswire s n) := h.linkStable.miswire n h.linkFree sound

theorem loseLink (n : Axis) (sound : P s) : P (loseLink s n) := h.linkStable.loseLink n h.linkFree sound

theorem helloRequest (n : Axis) (payload : List Byte) (sound : P s) : P (helloRequest n payload s).state :=
  h.linkStable.helloRequest n h.miswire payload sound

theorem pollRequest (n : Axis) (payload : List Byte) (sound : P s) : P (pollRequest n payload s).state :=
  h.linkStable.pollRequest n h.miswire payload sound

theorem setAxisRequest (p : Payload AxisFields) (sound : P s) : P (setAxisRequest p s).state := by
  obtain same | ⟨n, mode, forceLimit, rollerMass, same⟩ := setAxisRequest_state_cases p s
  · rw [same]; exact sound
  · rw [same]
    exact h.directiveStable.applyAxis n mode forceLimit rollerMass
      (h.quiet s _ (by simp) (by simp) (by simp) (by simp) (by simp) sound)

theorem holdsReaction (sound : P s) : P (holdsReaction s) := by
  refine foldl_property P _ (fun u who hu => ?_) _ _ sound
  unfold expireHold
  split
  · exact hu
  · split
    · have removed : P (u.setHold who none) := h.quiet u _ (by simp) (by simp) (by simp) (by simp) (by simp) hu
      dsimp only
      split
      · exact h.entry _ _ removed
      · exact removed
    · exact hu

theorem traceReaction (sound : P s) : P (traceReaction s) := by
  have counted (k : Nat) : P { s with trace := { s.trace with deviation := k } } := h.quiet s _ rfl rfl rfl rfl rfl sound
  unfold Machine.traceReaction
  split
  · exact sound
  · dsimp only
    split
    · exact h.traceOpened _ (counted _)
    · exact counted _
  · dsimp only
    split
    · exact h.traceClosed _ (counted _)
    · exact counted _

theorem limitReaction (sound : P s) : P (limitReaction s) := by
  have halted : P (haltClock s (s.clock.n + 1)) := h.quiet s _ rfl rfl rfl rfl rfl sound
  obtain same | ⟨-, active, same⟩ | ⟨-, -, same⟩ := limitReaction_cases s
  · rw [same]; exact sound
  · rw [same]; exact h.abort _ _ active halted
  · rw [same]; exact halted

/-- Every block's reaction, given the engine's. -/
theorem react (r : Reaction) (schedule : P (scheduleReaction s)) (sound : P s) : P (react r s) := by
  cases r with
  | schedule => exact schedule
  | directives => exact h.directiveStable.directivesReaction sound
  | holds => exact h.holdsReaction sound
  | link n => exact h.linkStable.linkReaction n h.linkFree sound
  | trace => exact h.traceReaction sound
  | limit => exact h.limitReaction sound

theorem safeStopReactions (sound : P s) : P (safeStopReactions s) := by
  cases active : s.runActive with
  | true => exact h.directiveStable.safeStopReactions (h.abort _ _ active sound) sound
  | false =>
    unfold Machine.safeStopReactions
    refine foldl_property P _ (fun _ n => h.directiveStable.cancelDirective n) _ _
      (foldl_property P _ (fun _ n => h.directiveStable.releaseAxis n) _ _ ?_)
    rw [active]
    exact sound

end RunStable

end Sys2Proof.Machine

/-!
PROOF. Every step keeps the queue (R18, R19, R21, R22). A block joins the tail record by record: each record that passes its
checks carries the expected number and finds the tail open, so it continues the numbering.
-/
namespace Sys2Proof.Machine
open Sys2Proof

/-! ## The numbering of a list of records -/

/-- The records, the number expected after them and the closed flag fit together (R18, R19, R21): `QueueSound` without the
capacity and QUEUE LOW. -/
structure Numbered (records : List Segment) (expected : Nat) (closed : Bool) : Prop where
  chain : records.IsChain fun a b => b.number = numberAfter a.number
  inner : ∀ g ∈ records.dropLast, g.kind ≠ .closing
  tail : ∀ g ∈ records.getLast?, expected = numberAfter g.number ∧ (g.kind = .closing → closed = true)
  numbers : ∀ g ∈ records, 1 ≤ g.number ∧ g.number ≤ 65535
  next : 1 ≤ expected ∧ expected ≤ 65535

theorem queueSound_iff (s : State) :
    QueueSound s ↔
      s.queue.records.length ≤ 64 ∧ Numbered s.queue.records s.queue.expected s.queue.closed ∧
        s.queue.lowWaterMark ≤ 63 ∧ s.queue.low = decide (s.queue.records.length ≤ s.queue.lowWaterMark) := by
  constructor
  · rintro ⟨room, chain, inner, tail, numbers, next, mark, low⟩
    exact ⟨room, ⟨chain, inner, tail, numbers, next⟩, mark, low⟩
  · rintro ⟨room, ⟨chain, inner, tail, numbers, next⟩, mark, low⟩
    exact ⟨room, chain, inner, tail, numbers, next, mark, low⟩

theorem QueueSound.of_queue {s t : State} (sound : QueueSound s) (same : t.queue = s.queue) : QueueSound t := by
  unfold QueueSound
  rw [same]
  exact sound

theorem numberAfter_range {n : Nat} (range : n ≤ 65535) : 1 ≤ numberAfter n ∧ numberAfter n ≤ 65535 := by
  unfold numberAfter
  split <;> omega

theorem Numbered.nil : Numbered [] 1 false :=
  ⟨List.isChain_nil, by simp, by simp, by simp, by omega⟩

/-- The head leaves the numbering as it was (R29). -/
theorem Numbered.rest {g : Segment} {rest : List Segment} {expected : Nat} {closed : Bool}
    (numbered : Numbered (g :: rest) expected closed) : Numbered rest expected closed := by
  obtain ⟨chain, inner, tail, numbers, next⟩ := numbered
  refine ⟨chain.tail, fun x hx => inner x ?_, fun x hx => tail x ?_, fun x hx => numbers x (List.mem_cons_of_mem _ hx), next⟩
  · cases rest with
    | nil => simp at hx
    | cons a l => exact List.mem_cons_of_mem _ hx
  · cases rest with
    | nil => simp at hx
    | cons a l => rw [List.getLast?_cons_cons]; exact hx

/-- A record with the expected number joins an open tail (R19, R21). -/
theorem Numbered.append {records : List Segment} {expected : Nat} (numbered : Numbered records expected false)
    {g : Segment} (number : g.number = expected) :
    Numbered (records ++ [g]) (numberAfter expected) (decide (g.kind = .closing)) := by
  obtain ⟨chain, inner, tail, numbers, next⟩ := numbered
  refine ⟨?_, fun x hx => ?_, fun x hx => ?_, fun x hx => ?_, numberAfter_range next.2⟩
  · refine List.IsChain.append chain (List.isChain_singleton _) fun x hx y hy => ?_
    obtain rfl : g = y := by simpa using hy
    rw [number, (tail x hx).1]
  · rw [List.dropLast_append_of_ne_nil (by simp), List.dropLast_singleton, List.append_nil] at hx
    intro closing
    rcases List.eq_nil_or_concat records with rfl | ⟨before, last, rfl⟩
    · simp at hx
    · rw [List.concat_eq_append] at hx inner tail
      rcases List.mem_append.mp hx with earlier | final
      · exact inner x (by simpa using earlier) closing
      · obtain rfl : x = last := by simpa using final
        have := (tail x (by simp)).2 closing
        simp at this
  · obtain rfl : g = x := by simpa using hx
    exact ⟨by rw [number], fun closing => by simp [closing]⟩
  · rcases List.mem_append.mp hx with earlier | final
    · exact numbers x earlier
    · obtain rfl : x = g := by simpa using final
      exact number ▸ next

/-! ## A block (R23 to R25) -/

theorem recordRefusal_none {t : Trial} {r : RawRecord} (passes : recordRefusal t r = none) :
    RecordWellFormed r ∧ RecordInRange r ∧ t.closed = false ∧ r.number = t.expected := by
  unfold recordRefusal at passes
  by_cases check : (crc r.covered).toNat ≠ r.check
  · simp [check] at passes
  by_cases formed : RecordWellFormed r
  swap
  · rw [if_neg check, if_pos formed] at passes; simp at passes
  by_cases ranges : RecordInRange r
  swap
  · rw [if_neg check, if_neg (not_not.mpr formed), if_pos ranges] at passes; simp at passes
  rw [if_neg check, if_neg (not_not.mpr formed), if_neg (not_not.mpr ranges)] at passes
  cases closed : t.closed with
  | true => simp [closed] at passes
  | false =>
    by_cases number : r.number = t.expected
    · exact ⟨formed, ranges, rfl, number⟩
    · simp [closed, number] at passes

/-- The first record of a block that passes, and the others. -/
theorem checkRecords_cons_ok {t last : Trial} {position : Nat} {r : RawRecord} {rest : List RawRecord}
    {segments : List Segment} (ok : checkRecords t position (r :: rest) = .ok (segments, last)) :
    recordRefusal t r = none ∧
      ∃ more, segments = segmentOf r :: more ∧
        checkRecords (t.after (segmentOf r)) (position + 1) rest = .ok (more, last) := by
  unfold checkRecords at ok
  cases refusal : recordRefusal t r with
  | some code => simp [refusal] at ok
  | none =>
    rw [refusal] at ok
    refine ⟨rfl, ?_⟩
    cases others : checkRecords (t.after (segmentOf r)) (position + 1) rest with
    | error e => simp [others] at ok
    | ok pair =>
      obtain ⟨more, final⟩ := pair
      simp only [others, Except.ok.injEq, Prod.mk.injEq] at ok
      obtain ⟨rfl, rfl⟩ := ok
      exact ⟨more, rfl, rfl⟩

/-- The records of an accepted block continue the numbering they were checked against. -/
theorem checkRecords_numbered (rs : List RawRecord) :
    ∀ (before : List Segment) (t : Trial) (position : Nat) (segments : List Segment) (last : Trial),
      Numbered before t.expected t.closed → checkRecords t position rs = .ok (segments, last) →
        segments.length = rs.length ∧ Numbered (before ++ segments) last.expected last.closed := by
  induction rs with
  | nil =>
    intro before t position segments last numbered ok
    obtain ⟨rfl, rfl⟩ : [] = segments ∧ t = last := by simpa [checkRecords] using ok
    exact ⟨rfl, by simpa using numbered⟩
  | cons r rest ih =>
    intro before t position segments last numbered ok
    obtain ⟨passes, more, rfl, others⟩ := checkRecords_cons_ok ok
    obtain ⟨-, -, closed, number⟩ := recordRefusal_none passes
    rw [closed] at numbered
    have joined := numbered.append (g := segmentOf r) number
    obtain ⟨length, all⟩ := ih _ _ _ _ _ joined others
    exact ⟨by simp [length], by simpa using all⟩

/-- An APPEND or LOAD BLOCK changes nothing, or an accepted block joins the tail. -/
theorem blockRequest_state_cases (records : Option (List RawRecord)) (s : State) :
    (blockRequest records s).state = s ∨
    ∃ rs segments last, s.queue.closed = false ∧ s.queue.records.length + rs.length ≤ max 64 s.queue.records.length ∧
      checkRecords { expected := s.queue.expected, tail := tailSpeed s, closed := false } 1 rs = .ok (segments, last) ∧
      (blockRequest records s).state = acceptBlock s segments last := by
  unfold blockRequest
  split
  · exact .inl rfl
  · split
    · exact .inl rfl
    · next closed =>
      split
      · exact .inl rfl
      · next rs =>
        split
        · exact .inl rfl
        · next room =>
          split
          · exact .inl rfl
          · next segments last ok =>
            refine .inr ⟨rs, segments, last, by simpa using closed, ?_, ok, rfl⟩
            have room : rs.length ≤ 64 - s.queue.records.length := Nat.not_lt.mp room
            omega

theorem acceptBlock_queueSound {s : State} {rs : List RawRecord} {segments : List Segment} {last : Trial}
    (sound : QueueSound s) (closed : s.queue.closed = false)
    (room : s.queue.records.length + rs.length ≤ max 64 s.queue.records.length)
    (ok : checkRecords { expected := s.queue.expected, tail := tailSpeed s, closed := false } 1 rs = .ok (segments, last)) :
    QueueSound (acceptBlock s segments last) := by
  obtain ⟨capacity, numbered, mark, -⟩ := (queueSound_iff s).mp sound
  rw [closed] at numbered
  obtain ⟨length, joined⟩ := checkRecords_numbered rs _ _ _ _ _ numbered ok
  refine (queueSound_iff _).mpr ⟨?_, ?_, mark, rfl⟩
  · have : (s.queue.records ++ segments).length ≤ 64 := by rw [List.length_append, length]; omega
    exact this
  · have : Numbered (s.queue.records ++ segments) last.expected (s.queue.closed || last.closed) := by
      rw [closed]; exact joined
    exact this

theorem flushQueue_queueSound {s : State} (sound : QueueSound s) : QueueSound (flushQueue s) := by
  obtain ⟨-, -, mark, -⟩ := (queueSound_iff s).mp sound
  exact (queueSound_iff _).mpr ⟨Nat.zero_le _, .nil, mark, rfl⟩

/-- CLOSE RUN changes nothing, or, in ENDED and ABORTED, flushes the queue and leaves the run (R52). -/
theorem closeRunRequest_state_cases (p : Payload Unit) (s : State) :
    (closeRunRequest p s).state = s ∨
    (s.schedule.state = .ended ∨ s.schedule.state = .aborted) ∧
      (closeRunRequest p s).state = setScheduleState (flushQueue s) .idle := by
  unfold closeRunRequest
  split
  · exact .inl rfl
  · split
    case h_1 ended => exact .inr ⟨.inl ended, rfl⟩
    case h_2 aborted => exact .inr ⟨.inr aborted, rfl⟩
    all_goals exact .inl rfl

/-- SET RUN changes nothing, or sets six settings in their ranges while no run is active (R53). -/
theorem setRunRequest_state_cases (p : Payload RunFields) (s : State) :
    (setRunRequest p s).state = s ∨
    ∃ r policy, s.runActive = false ∧ RunFieldsInRange r ∧ (setRunRequest p s).state = applyRunFields s r policy := by
  unfold setRunRequest
  split
  · exact .inl rfl
  · split
    · exact .inl rfl
    · next inactive =>
      split
      · exact .inl rfl
      · split
        case isTrue inRange => exact .inr ⟨_, _, by simpa using inactive, inRange, rfl⟩
        case isFalse => exact .inl rfl

theorem Request.queueSound {h : State → Served} (request : Request h) {s : State} (sound : QueueSound s) :
    QueueSound (h s).state := by
  cases request with
  | reset p =>
    obtain same | ⟨-, same⟩ := resetRequest_state_cases p s
    · rw [same]; exact sound
    · rw [same]; exact (flushQueue_queueSound sound).of_queue rfl
  | block records =>
    obtain same | ⟨rs, segments, last, closed, room, ok, same⟩ := blockRequest_state_cases records s
    · rw [same]; exact sound
    · rw [same]; exact acceptBlock_queueSound sound closed room ok
  | flush p =>
    cases p with
    | misfit => exact sound
    | fits x => exact flushQueue_queueSound sound
  | closeRun p =>
    obtain same | ⟨-, same⟩ := closeRunRequest_state_cases p s
    · rw [same]; exact sound
    · rw [same]; exact (flushQueue_queueSound sound).of_queue (by simp)
  | setRun p =>
    obtain same | ⟨r, policy, -, inRange, same⟩ := setRunRequest_state_cases p s
    · rw [same]; exact sound
    · rw [same]
      obtain ⟨capacity, numbered, -, -⟩ := (queueSound_iff s).mp sound
      exact (queueSound_iff _).mpr ⟨capacity, numbered, inRange.2.2.1, rfl⟩
  | reads h nothing => exact (nothing s).symm ▸ sound
  | _ => exact sound.of_queue (by simp)

/-! ## The engine takes the head (R29) -/

theorem QueueSound.headTaken {s t : State} {g : Segment} {rest : List Segment} (sound : QueueSound s)
    (records : s.queue.records = g :: rest)
    (taken : t.queue = { s.queue with records := rest, low := decide (rest.length ≤ s.queue.lowWaterMark) }) :
    QueueSound t := by
  obtain ⟨capacity, numbered, mark, -⟩ := (queueSound_iff s).mp sound
  rw [records] at capacity numbered
  refine (queueSound_iff t).mpr ?_
  rw [taken]
  exact ⟨(Nat.le_succ _).trans capacity, numbered.rest, mark, rfl⟩

theorem queueSound_engineStable : EngineStable QueueSound where
  congr _ _ queue _ _ _ _ sound := sound.of_queue queue
  start s g rest records _ sound := sound.headTaken records (startSegment_eq s g rest records).1
  taken s g rest records _ sound := sound.headTaken records (by rw [(enterEnded_keeps _).2.2.2.1]; exact takeHead_queue records)
  dwell s _ sound := sound.of_queue (by simp)
  stop s _ sound := sound.of_queue (by simp)
  complete s _ sound := sound.of_queue (by simp)

theorem react_queueSound (r : Reaction) {s : State} (sound : QueueSound s) : QueueSound (react r s) := by
  cases r with
  | schedule => exact queueSound_engineStable.scheduleReaction sound
  | _ => exact sound.of_queue (by simp [react])

theorem atReset_queueSound (asserted : Bool) : QueueSound (State.atReset asserted) :=
  (queueSound_iff _).mpr ⟨Nat.zero_le _, .nil, by simp [State.atReset, Queue.atReset], rfl⟩

theorem queueSound_stable : Stable QueueSound where
  receiver _ _ _ sound := sound.of_queue (by simp)
  taken _ r _ sound := react_queueSound r (sound.of_queue rfl)
  begins _ _ _ sound := sound.of_queue rfl
  request _ request _ _ sound := request.queueSound sound
  broken _ _ _ sound := sound.of_queue (by simp)
  asserted _ sound := sound.of_queue (by simp)
  deasserted _ sound := sound.of_queue rfl
  outputs _ _ _ _ sound := sound.of_queue rfl
  position _ _ _ _ sound := sound.of_queue rfl
  drawn _ _ sound := sound.of_queue rfl
  held _ sound := sound.of_queue rfl
  full asserted _ _ := (atReset_queueSound asserted).of_queue rfl

/-- Settles O56: the queue's conditions are stable under everything a step is made of. -/
theorem queueStaysSound : Obligations.QueueStaysSound :=
  fun _ _ sound stepped => step_keeps queueSound_stable (fun _ _ sound => sound.of_queue rfl) sound stepped

end Sys2Proof.Machine

/-!
PROOF. Every step keeps the placement order (R94) and the banks (R129, R133, R135).
-/
namespace Sys2Proof.Machine
open Sys2Proof

/-! ## The placement order -/

namespace DirectivesSound
variable {s t : State}

theorem of_same (sound : DirectivesSound s) (same : t.directives = s.directives) : DirectivesSound t :=
  of_directives s t (by rw [same]) (fun _ => by rw [same]) sound

end DirectivesSound

theorem directivesSound_placementStable : PlacementStable DirectivesSound where
  congr _ _ _ _ _ directives sound := sound.of_same directives
  place s n action sound := placeDirective_directivesSound s n action sound

theorem directivesSound_directiveStable : DirectiveStable DirectivesSound where
  leave s n _ sound := .of_directives s _ (by simp) (by simp) sound
  conclude s n o _ sound := concludeDirective_directivesSound s n o sound
  engage s n g _ _ sound := by
    refine ⟨?_, fun m => ?_⟩
    · exact sound.1.filter _
    · have order : (applyEngage s n g).directives.order = s.directives.order.filter (· ≠ n) := rfl
      have listed := sound.2 m
      rw [order, applyEngage_slot]
      by_cases same : m = n <;> simp [same, listed]

theorem directivesSound_linkStable : LinkStable DirectivesSound where
  axis _ _ _ _ sound := sound.of_same (by simp)
  link _ _ _ _ sound := sound.of_same (by simp)
  loss _ _ sound := sound.of_same rfl
  cause s n c code sound := raiseCause_directivesSound s n c code sound
  slipOpened _ _ sound := sound.of_same (by simp)
  slipClosed _ _ sound := sound.of_same (by simp)

theorem directivesSound_linkFree (s : State) (n : Axis) (l : DriveLink) (sound : DirectivesSound s) :
    DirectivesSound (s.setLink n l) := sound.of_same (by simp)

theorem directivesSound_miswire (s : State) (n : Axis) (sound : DirectivesSound s) : DirectivesSound (miswire s n) :=
  directivesSound_linkStable.miswire n directivesSound_linkFree sound

/-- A state in which no directive is pending and none is listed. -/
theorem DirectivesSound.of_empty {s : State} (order : s.directives.order = []) (none_ : ∀ n, (s.slot n).pending = none) :
    DirectivesSound s := ⟨by rw [order]; exact List.nodup_nil, fun n => by simp [order, none_ n]⟩

/-- SET GUARDS writes the guards and no slot (R102). -/
theorem setGuardsRequest_directives (p : Payload GuardSettings) (s : State) :
    ∃ g, (setGuardsRequest p s).state.directives = { s.directives with guards := g } := by
  unfold setGuardsRequest
  split
  · exact ⟨_, rfl⟩
  · split
    · exact ⟨_, rfl⟩
    · split <;> exact ⟨_, rfl⟩

theorem Request.directivesSound {h : State → Served} (request : Request h) {s : State} (sound : DirectivesSound s) :
    DirectivesSound (h s).state := by
  cases request with
  | reset p =>
    obtain same | ⟨-, same⟩ := resetRequest_state_cases p s
    · rw [same]; exact sound
    · rw [same]; exact .of_empty rfl fun n => by rw [softReset_slot]; rfl
  | setAxis p =>
    obtain same | ⟨n, mode, forceLimit, rollerMass, same⟩ := setAxisRequest_state_cases p s
    · rw [same]; exact sound
    · rw [same]
      exact directivesSound_directiveStable.applyAxis n mode forceLimit rollerMass (sound.of_same (by simp))
  | couple p => exact directivesSound_placementStable.coupleRequest p sound
  | setGuards p =>
    obtain ⟨g, same⟩ := setGuardsRequest_directives p s
    exact .of_directives s _ (by rw [same]) (fun n => by rw [same]) sound
  | hello n payload => exact directivesSound_linkStable.helloRequest n directivesSound_miswire payload sound
  | poll n payload => exact directivesSound_linkStable.pollRequest n directivesSound_miswire payload sound
  | reads h nothing => exact (nothing s).symm ▸ sound
  | _ => exact sound.of_same (by simp)

theorem react_directivesSound (r : Reaction) {s : State} (sound : DirectivesSound s) : DirectivesSound (react r s) := by
  cases r with
  | schedule => exact directivesSound_placementStable.scheduleReaction sound
  | directives => exact directivesSound_directiveStable.directivesReaction sound
  | link n => exact directivesSound_linkStable.linkReaction n directivesSound_linkFree sound
  | _ => exact sound.of_same (by simp [react])

theorem assertSafeStop_directivesSound {s : State} (sound : DirectivesSound s) : DirectivesSound (assertSafeStop s) := by
  have latched : DirectivesSound { s with safety := .safeAsserted, safeStopAsserted := true } := sound.of_same rfl
  unfold assertSafeStop
  dsimp only
  split
  · exact latched
  · exact directivesSound_directiveStable.safeStopReactions (latched.of_same (by simp)) latched

theorem atReset_directivesSound (asserted : Bool) : DirectivesSound (State.atReset asserted) :=
  .of_empty rfl fun n => by
    have slot : (State.atReset asserted).slot n = .atReset := Four.get_all _ _
    rw [slot]
    rfl

theorem directivesSound_stable : Stable DirectivesSound where
  receiver _ _ _ sound := sound.of_same (by simp)
  taken _ r _ sound := react_directivesSound r (sound.of_same rfl)
  begins _ _ _ sound := sound.of_same rfl
  request _ request _ _ sound := request.directivesSound sound
  broken _ n _ sound := directivesSound_linkStable.loseLink n directivesSound_linkFree sound
  asserted _ sound := assertSafeStop_directivesSound sound
  deasserted _ sound := sound.of_same rfl
  outputs _ _ _ _ sound := sound.of_same rfl
  position _ _ _ _ sound := sound.of_same rfl
  drawn _ _ sound := sound.of_same rfl
  held _ sound := sound.of_same rfl
  full asserted _ _ := atReset_directivesSound asserted

/-! ## The banks -/

/-- `BanksSound`, of the banks and the run's activity. -/
structure BanksFit (r : RoadLoad) (active : Bool) : Prop where
  one : ¬ (r.bankA.activeCoefficients.isSome = true ∧ r.bankB.activeCoefficients.isSome = true)
  pending : ∀ name ∈ r.pendingSelection, (r.bank name).activeCoefficients = none ∧ active = true

theorem banksSound_iff (s : State) : BanksSound s ↔ BanksFit s.road s.runActive :=
  ⟨fun ⟨one, pending⟩ => ⟨one, pending⟩, fun ⟨one, pending⟩ => ⟨one, pending⟩⟩

namespace BanksSound
variable {s t : State}

/-- The banks stand, and the run does not end. -/
theorem of_road (sound : BanksSound s) (road : t.road = s.road) (active : s.runActive = true → t.runActive = true) :
    BanksSound t := by
  obtain ⟨one, pending⟩ := (banksSound_iff s).mp sound
  exact (banksSound_iff t).mpr (road ▸ ⟨one, fun name h => ⟨(pending name h).1, active (pending name h).2⟩⟩)

theorem of_schedule (sound : BanksSound s) (road : t.road = s.road) (schedule : t.schedule = s.schedule) : BanksSound t :=
  sound.of_road road fun active => by rw [State.runActive_congr schedule]; exact active

/-- The pending selection is discarded (R135). -/
theorem of_discarded (sound : BanksSound s) (road : t.road = { s.road with pendingSelection := none }) : BanksSound t := by
  obtain ⟨one, -⟩ := (banksSound_iff s).mp sound
  exact (banksSound_iff t).mpr (road ▸ ⟨one, fun _ h => by simp at h⟩)

end BanksSound

theorem State.runActive_of_state {s t : State} (state : t.schedule.state = s.schedule.state) : t.runActive = s.runActive := by
  unfold State.runActive
  rw [state]

theorem runActive_stopping (s : State) (cause : StopCause) : (enterStopping s cause).runActive = true :=
  (runActive_iff _).mpr (by simp)

theorem banksSound_runStable : RunStable BanksSound where
  quiet _ _ _ schedule road _ _ sound := sound.of_schedule road schedule
  entry s e sound := sound.of_schedule (by simp) (by simp)
  slipOpened s n sound := sound.of_schedule (by simp) (by simp)
  slipClosed s n sound := sound.of_schedule (by simp) (by simp)
  traceOpened s sound := sound.of_schedule (by simp) (by simp)
  traceClosed s sound := sound.of_schedule (by simp) (by simp)
  abort s cause _ sound := sound.of_discarded (by simp)
  stop s cause _ sound := sound.of_road (by simp) fun _ => runActive_stopping s cause

@[simp] theorem Bank.standDown_activeCoefficients (b : Bank) : b.standDown.activeCoefficients = none := by
  cases b <;> rfl

/-- A selection applied at a segment's start: the named bank becomes ACTIVE and the other stands down (R134). -/
theorem applySelection_banks {s : State} (sound : BanksSound s) : BanksFit (applySelection s).road true := by
  obtain ⟨one, -⟩ := (banksSound_iff s).mp sound
  rw [applySelection_road]
  split
  case h_1 => exact ⟨by simp, fun _ h => by simp at h⟩
  case h_2 => exact ⟨by simp, fun _ h => by simp at h⟩
  case h_3 => exact ⟨one, fun _ h => by simp at h⟩

theorem banksSound_engineStable : EngineStable BanksSound where
  congr _ _ _ state road _ _ sound := sound.of_road road fun active => by rw [State.runActive_of_state state]; exact active
  start s g rest records _ sound := by
    obtain ⟨-, schedule, -, road, -, -⟩ := startSegment_eq s g rest records
    refine (banksSound_iff _).mpr ?_
    have active : (startSegment s g).runActive = true := (runActive_iff _).mpr (by rw [schedule]; simp)
    rw [road, active]
    exact applySelection_banks sound
  taken s g rest _ _ sound := sound.of_discarded (by simp)
  dwell s _ sound := sound.of_road (by simp) fun _ => (runActive_iff _).mpr (by simp)
  stop s _ sound := sound.of_road (by simp) fun _ => runActive_stopping s _
  complete s _ sound := sound.of_discarded (by simp)

/-- ABORT RUN changes nothing, aborts an armed run or stops one under way (R48). -/
theorem abortRunRequest_state_cases (p : Payload Unit) (s : State) :
    (abortRunRequest p s).state = s ∨
    s.schedule.state = .armed ∧ (abortRunRequest p s).state = enterAborted s .abortRequest ∨
    (s.schedule.state = .running ∨ s.schedule.state = .dwell) ∧
      (abortRunRequest p s).state = enterStopping s .abortRequest := by
  unfold abortRunRequest
  split
  · exact .inl rfl
  · split
    case h_1 armed => exact .inr (.inl ⟨armed, rfl⟩)
    case h_2 running => exact .inr (.inr ⟨.inl running, rfl⟩)
    case h_3 dwell => exact .inr (.inr ⟨.inr dwell, rfl⟩)
    all_goals exact .inl rfl

/-- START RUN changes nothing, or arms the schedule from IDLE, with the clock running and the safety latch NORMAL (R35). -/
theorem startRunRequest_state_cases (p : Payload Unit) (s : State) :
    (startRunRequest p s).state = s ∨
    s.schedule.state = .idle ∧ s.clock.state = .running ∧ s.safety = .normal ∧ (startRunRequest p s).state = armRun s := by
  unfold startRunRequest
  split
  · exact .inl rfl
  · split
    · exact .inl rfl
    · next idle =>
      split
      · exact .inl rfl
      · next running =>
        split
        · exact .inl rfl
        · next normal =>
          split
          · exact .inl rfl
          · exact .inr ⟨not_not.mp idle, not_not.mp running, not_not.mp normal, rfl⟩

@[simp] theorem RoadLoad.bank_setBank (r : RoadLoad) (name other : BankName) (x : Bank) :
    (r.setBank name x).bank other = if other = name then x else r.bank other := by
  cases name <;> cases other <;> rfl

/-- A bank that is loaded is not ACTIVE, and the other stays (R130). -/
theorem BanksFit.load {r : RoadLoad} {active : Bool} (fit : BanksFit r active) (name : BankName) (c : Coefficients) :
    BanksFit (r.setBank name (.loaded c)) active := by
  obtain ⟨one, pending⟩ := fit
  refine ⟨?_, fun x hx => ?_⟩
  · cases name <;> simp [RoadLoad.setBank, Bank.activeCoefficients]
  · have same : (r.setBank name (.loaded c)).pendingSelection = r.pendingSelection := by cases name <;> rfl
    rw [same] at hx
    obtain ⟨notActive, run⟩ := pending x hx
    refine ⟨?_, run⟩
    rw [RoadLoad.bank_setBank]
    split
    · rfl
    · exact notActive

theorem loadBankRequest_banksSound (p : Payload BankFields) {s : State} (sound : BanksSound s) :
    BanksSound (loadBankRequest p s).state := by
  unfold loadBankRequest
  split
  · exact sound
  · split
    · exact sound
    · split
      · exact sound
      · split
        · exact (banksSound_iff _).mpr (((banksSound_iff s).mp sound).load _ _)
        · exact sound

/-- A selection at once: out of a run nothing is pending, and the other bank stands down (R132). -/
theorem selectNow_banksSound {s : State} (name : BankName) (inactive : s.runActive = false) (sound : BanksSound s) :
    BanksSound (selectNow s name).state := by
  unfold selectNow
  split
  · exact sound
  · exact sound
  · obtain ⟨-, pending⟩ := (banksSound_iff s).mp sound
    have none_ : s.road.pendingSelection = none := by
      cases selection : s.road.pendingSelection with
      | none => rfl
      | some x => simpa [inactive] using (pending x selection).2
    refine (banksSound_iff _).mpr ⟨?_, fun x hx => ?_⟩
    · cases name <;> simp [RoadLoad.setBank, otherBank]
    · cases name <;> simp [RoadLoad.setBank, otherBank, none_] at hx

/-- A selection during a run: pending only for a bank that is not ACTIVE (R133). -/
theorem selectLater_banksSound {s : State} (name : BankName) (active : s.runActive = true) (sound : BanksSound s) :
    BanksSound (selectLater s name).state := by
  obtain ⟨one, -⟩ := (banksSound_iff s).mp sound
  refine (banksSound_iff _).mpr ⟨one, fun x hx => ⟨?_, active⟩⟩
  simp only [selectLater, banksServed_state] at hx ⊢
  split at hx
  · simp at hx
  · next notActive =>
    obtain rfl : name = x := by simpa using hx
    have none_ : (s.road.bank name).activeCoefficients = none := by simpa using notActive
    cases name <;> exact none_

theorem selectBankRequest_banksSound (p : Payload (Option BankName)) {s : State} (sound : BanksSound s) :
    BanksSound (selectBankRequest p s).state := by
  unfold selectBankRequest
  split
  · exact sound
  · exact sound
  · split
    case h_1 state => exact selectNow_banksSound _ ((inactive_iff s).mpr (by simp [state])) sound
    case h_2 state => exact selectNow_banksSound _ ((inactive_iff s).mpr (by simp [state])) sound
    case h_3 state => exact selectNow_banksSound _ ((inactive_iff s).mpr (by simp [state])) sound
    case h_4 state => exact selectLater_banksSound _ ((runActive_iff s).mpr (by simp [state])) sound
    case h_5 state => exact selectLater_banksSound _ ((runActive_iff s).mpr (by simp [state])) sound
    case h_6 state => exact selectLater_banksSound _ ((runActive_iff s).mpr (by simp [state])) sound
    case h_7 => exact sound

theorem Request.banksSound {h : State → Served} (request : Request h) {s : State} (sound : BanksSound s) :
    BanksSound (h s).state := by
  cases request with
  | reset p =>
    obtain same | ⟨-, same⟩ := resetRequest_state_cases p s
    · rw [same]; exact sound
    · rw [same]; exact sound.of_discarded rfl
  | startRun p =>
    obtain same | ⟨-, -, -, same⟩ := startRunRequest_state_cases p s
    · rw [same]; exact sound
    · rw [same]; exact sound.of_road rfl fun _ => rfl
  | abortRun p =>
    obtain same | ⟨armed, same⟩ | ⟨underWay, same⟩ := abortRunRequest_state_cases p s
    · rw [same]; exact sound
    · rw [same]; exact banksSound_runStable.abort _ _ ((runActive_iff s).mpr (.inl armed)) sound
    · rw [same]; exact banksSound_runStable.stop _ _ underWay sound
  | closeRun p =>
    obtain same | ⟨finished, same⟩ := closeRunRequest_state_cases p s
    · rw [same]; exact sound
    · rw [same]
      have inactive : s.runActive = false := (inactive_iff s).mpr (.inr finished)
      exact sound.of_road (by simp) fun active => by simp [inactive] at active
  | setRun p =>
    obtain same | ⟨r, policy, -, -, same⟩ := setRunRequest_state_cases p s
    · rw [same]; exact sound
    · rw [same]; exact sound.of_road rfl id
  | setAxis p => exact banksSound_runStable.setAxisRequest p sound
  | loadBank p => exact loadBankRequest_banksSound p sound
  | selectBank p => exact selectBankRequest_banksSound p sound
  | hello n payload => exact banksSound_runStable.helloRequest n payload sound
  | poll n payload => exact banksSound_runStable.pollRequest n payload sound
  | reads h nothing => exact (nothing s).symm ▸ sound
  | _ => exact sound.of_schedule (by simp) (by simp)

theorem assertSafeStop_banksSound {s : State} (sound : BanksSound s) : BanksSound (assertSafeStop s) := by
  have latched : BanksSound { s with safety := .safeAsserted, safeStopAsserted := true } := sound.of_road rfl id
  unfold assertSafeStop
  dsimp only
  split
  · exact latched
  · exact banksSound_runStable.safeStopReactions latched

theorem atReset_banksSound (asserted : Bool) : BanksSound (State.atReset asserted) :=
  (banksSound_iff _).mpr
    ⟨by simp [State.atReset, Bank.activeCoefficients], fun _ pending => by simp [State.atReset] at pending⟩

theorem banksSound_stable : Stable BanksSound where
  receiver s p r sound := sound.of_schedule (by simp) (by simp)
  taken _ r _ sound :=
    have sound := sound.of_road rfl id
    banksSound_runStable.react r (banksSound_engineStable.scheduleReaction sound) sound
  begins _ _ _ sound := sound.of_road rfl id
  request _ request _ _ sound := request.banksSound sound
  broken _ n _ sound := banksSound_runStable.loseLink n sound
  asserted _ sound := assertSafeStop_banksSound sound
  deasserted _ sound := sound.of_road rfl id
  outputs _ _ _ _ sound := sound.of_road rfl id
  position _ _ _ _ sound := sound.of_road rfl id
  drawn _ _ sound := sound.of_road rfl id
  held _ sound := sound.of_road rfl id
  full asserted _ _ := atReset_banksSound asserted

/-- Settles O60: the placement order and the banks are each stable under everything a step is made of. -/
theorem directivesAndBanksStaySound : Obligations.DirectivesAndBanksStaySound := fun _ _ stepped =>
  ⟨fun directives => step_keeps directivesSound_stable (fun _ _ sound => sound.of_same rfl) directives stepped,
    fun banks => step_keeps banksSound_stable (fun _ _ sound => sound.of_road rfl id) banks stepped⟩

end Sys2Proof.Machine

/-!
PROOF. Every step keeps the schedule's speeds and its active segment (R33, R34), and no run active out of NORMAL (R141).
-/
namespace Sys2Proof.Machine
open Sys2Proof

/-! ## No run active out of NORMAL -/

theorem safeStopSound_iff (s : State) : SafeStopSound s ↔ (s.runActive = true → s.safety = .normal) := by
  unfold SafeStopSound
  rw [← inactive_iff]
  constructor
  · intro sound active
    by_contra latched
    simp [sound latched] at active
  · intro normal latched
    by_contra active
    exact latched (normal (by simpa using active))

namespace SafeStopSound
variable {s t : State}

theorem of_safety (sound : SafeStopSound s) (safety : t.safety = s.safety)
    (active : t.runActive = true → s.runActive = true) : SafeStopSound t :=
  (safeStopSound_iff t).mpr fun run => safety.trans ((safeStopSound_iff s).mp sound (active run))

theorem of_schedule (sound : SafeStopSound s) (safety : t.safety = s.safety) (schedule : t.schedule = s.schedule) :
    SafeStopSound t := sound.of_safety safety fun active => by rw [← State.runActive_congr schedule]; exact active

theorem of_inactive (inactive : t.runActive = false) : SafeStopSound t :=
  (safeStopSound_iff t).mpr fun active => by simp [inactive] at active

end SafeStopSound

theorem finishRun_inactive (s : State) (cause : Option StopCause) : (finishRun s .aborted cause).runActive = false :=
  (inactive_iff _).mpr (by simp)

theorem enterAborted_inactive (s : State) (cause : StopCause) : (enterAborted s cause).runActive = false :=
  finishRun_inactive _ _

theorem safeStopSound_runStable : RunStable SafeStopSound where
  quiet _ _ _ schedule _ _ safety sound := sound.of_schedule safety schedule
  entry _ _ sound := sound.of_schedule (by simp) (by simp)
  slipOpened _ _ sound := sound.of_schedule (by simp) (by simp)
  slipClosed _ _ sound := sound.of_schedule (by simp) (by simp)
  traceOpened _ sound := sound.of_schedule (by simp) (by simp)
  traceClosed _ sound := sound.of_schedule (by simp) (by simp)
  abort s cause _ _ := .of_inactive (enterAborted_inactive s cause)
  stop s cause underWay sound := sound.of_safety (by simp) fun _ => (runActive_iff s).mpr (by tauto)

theorem safeStopSound_engineStable : EngineStable SafeStopSound where
  congr _ _ _ state _ _ safety sound :=
    sound.of_safety safety fun active => by rw [← State.runActive_of_state state]; exact active
  start s g _ _ active sound := sound.of_safety (by simp) fun _ => active
  taken s _ _ _ _ _ := .of_inactive ((inactive_iff _).mpr (by simp))
  dwell s active sound := sound.of_safety (by simp) fun _ => active
  stop s dwell sound := sound.of_safety (by simp) fun _ => (runActive_iff s).mpr (by simp [dwell])
  complete s _ _ := .of_inactive ((inactive_iff _).mpr (by simp))

theorem Request.safeStopSound {h : State → Served} (request : Request h) {s : State} (sound : SafeStopSound s) :
    SafeStopSound (h s).state := by
  cases request with
  | reset p =>
    obtain same | ⟨-, same⟩ := resetRequest_state_cases p s
    · rw [same]; exact sound
    · rw [same]; exact .of_inactive rfl
  | startRun p =>
    obtain same | ⟨-, -, normal, same⟩ := startRunRequest_state_cases p s
    · rw [same]; exact sound
    · rw [same]; exact (safeStopSound_iff _).mpr fun _ => normal
  | abortRun p =>
    obtain same | ⟨armed, same⟩ | ⟨underWay, same⟩ := abortRunRequest_state_cases p s
    · rw [same]; exact sound
    · rw [same]; exact .of_inactive (enterAborted_inactive _ _)
    · rw [same]; exact safeStopSound_runStable.stop _ _ underWay sound
  | closeRun p =>
    obtain same | ⟨-, same⟩ := closeRunRequest_state_cases p s
    · rw [same]; exact sound
    · rw [same]; exact .of_inactive rfl
  | setRun p =>
    obtain same | ⟨r, policy, -, -, same⟩ := setRunRequest_state_cases p s
    · rw [same]; exact sound
    · rw [same]; exact sound.of_safety rfl id
  | ackSafeStop p =>
    refine (safeStopSound_iff _).mpr fun active => ?_
    have active : s.runActive = true := by rw [← active]; exact (State.runActive_congr (by simp)).symm
    have normal := (safeStopSound_iff s).mp sound active
    cases p with
    | misfit => exact normal
    | fits x => simp [ackSafeStopRequest, normal]
  | hello n payload => exact safeStopSound_runStable.helloRequest n payload sound
  | poll n payload => exact safeStopSound_runStable.pollRequest n payload sound
  | reads h nothing => exact (nothing s).symm ▸ sound
  | _ => exact sound.of_schedule (by simp) (by simp)

/-- An assertion leaves no run active (R55, R174). -/
theorem safeStopReactions_inactive (s : State) : (safeStopReactions s).runActive = false := by
  have schedule : (safeStopReactions s).schedule = (if s.runActive then enterAborted s .safeStop else s).schedule := by
    unfold safeStopReactions
    dsimp only
    rw [foldl_keeps State.schedule _ (by simp), foldl_keeps State.schedule _ (by simp)]
  rw [State.runActive_congr schedule]
  cases active : s.runActive with
  | true => exact enterAborted_inactive s _
  | false => exact active

theorem assertSafeStop_safeStopSound {s : State} (sound : SafeStopSound s) : SafeStopSound (assertSafeStop s) := by
  unfold assertSafeStop
  dsimp only
  split
  case isTrue already => exact sound.of_schedule already.symm rfl
  case isFalse => exact .of_inactive (safeStopReactions_inactive _)

theorem deassertSafeStop_safeStopSound {s : State} (sound : SafeStopSound s) : SafeStopSound (deassertSafeStop s) := by
  refine (safeStopSound_iff _).mpr fun active => ?_
  have normal := (safeStopSound_iff s).mp sound active
  simp [deassertSafeStop, normal]

theorem safeStopSound_stable : Stable SafeStopSound where
  receiver _ _ _ sound := sound.of_schedule (by simp) (by simp)
  taken _ r _ sound :=
    have sound := sound.of_schedule rfl rfl
    safeStopSound_runStable.react r (safeStopSound_engineStable.scheduleReaction sound) sound
  begins _ _ _ sound := sound.of_safety rfl id
  request _ request _ _ sound := request.safeStopSound sound
  broken _ n _ sound := safeStopSound_runStable.loseLink n sound
  asserted _ sound := assertSafeStop_safeStopSound sound
  deasserted _ sound := deassertSafeStop_safeStopSound sound
  outputs _ _ _ _ sound := sound.of_schedule rfl rfl
  position _ _ _ _ sound := sound.of_schedule rfl rfl
  drawn _ _ sound := sound.of_schedule rfl rfl
  held _ sound := sound.of_schedule rfl rfl
  full _ _ _ := .of_inactive rfl

/-! ## The schedule's speeds -/

/-- The speeds from which a segment may start: the virtual speed, and the end speeds of the pending records. -/
structure SpeedsFit (s : State) : Prop where
  speed : InRange 0 20000 s.schedule.virtualSpeed
  deceleration : InRange 1 20 s.schedule.stopDeceleration
  pending : ∀ g ∈ s.queue.records, InRange 0 20000 g.endSpeed

theorem ScheduleSound.speedsFit {s : State} (sound : ScheduleSound s) : SpeedsFit s := by
  obtain ⟨speed, -, -, deceleration, pending, -⟩ := sound
  exact ⟨speed, deceleration, pending⟩

namespace ScheduleSound
variable {s t : State}

theorem of_fields (sound : ScheduleSound s) (schedule : t.schedule = s.schedule) (queue : t.queue = s.queue) :
    ScheduleSound t := by
  unfold ScheduleSound
  rw [schedule, queue]
  exact sound

/-- Out of RUNNING there is no active segment, and out of motion the speed is 0. -/
theorem of_notRunning (fit : SpeedsFit t) (active : t.schedule.active = none) (state : t.schedule.state ≠ .running)
    (rest : t.schedule.virtualSpeed = 0 ∨ t.schedule.state = .dwell ∨ t.schedule.state = .stopping) : ScheduleSound t := by
  refine ⟨fit.speed, fun still => ?_, by simp [active, state], fit.deceleration, fit.pending, by simp [active]⟩
  rcases rest with zero | moving | moving
  · exact zero
  · simp [moving] at still
  · simp [moving] at still

theorem of_running {a : ActiveSegment} (fit : SpeedsFit t) (active : t.schedule.active = some a)
    (state : t.schedule.state = .running) (start : InRange 0 20000 a.startSpeed) (target : InRange 0 20000 a.record.endSpeed) :
    ScheduleSound t :=
  ⟨fit.speed, by simp [state], by simp [active, state], fit.deceleration, fit.pending, by
    rw [active]
    rintro _ ⟨⟩
    exact ⟨start, target⟩⟩

/-- What a soundness of the schedule reads beside the records, which leave the queue one by one. -/
theorem of_schedule (sound : ScheduleSound s) (speed : t.schedule.virtualSpeed = s.schedule.virtualSpeed)
    (state : t.schedule.state = s.schedule.state) (active : t.schedule.active = s.schedule.active)
    (deceleration : InRange 1 20 t.schedule.stopDeceleration)
    (pending : ∀ g ∈ t.queue.records, InRange 0 20000 g.endSpeed) : ScheduleSound t := by
  obtain ⟨range, still, running, -, -, segment⟩ := sound
  unfold ScheduleSound
  rw [speed, state, active]
  exact ⟨range, still, running, deceleration, pending, segment⟩

end ScheduleSound

/-- A difference shared out over `d` frames: after `k` of them it lies between 0 and the whole. -/
theorem tdiv_share (x : Int) {k d : Nat} (le : k ≤ d) :
    (0 ≤ x → 0 ≤ (x * k).tdiv d ∧ (x * k).tdiv d ≤ x) ∧ (x ≤ 0 → x ≤ (x * k).tdiv d ∧ (x * k).tdiv d ≤ 0) := by
  have share (y : Int) (nonneg : 0 ≤ y) : 0 ≤ (y * k).tdiv d ∧ (y * k).tdiv d ≤ y := by
    have product : 0 ≤ y * (k : Int) := Int.mul_nonneg nonneg (by omega)
    rw [Int.tdiv_eq_ediv_of_nonneg product]
    rcases Nat.eq_zero_or_pos d with rfl | pos
    · simp [nonneg]
    · refine ⟨Int.ediv_nonneg product (by omega), Int.ediv_le_of_le_mul (by omega) ?_⟩
      exact Int.mul_le_mul_of_nonneg_left (by omega) nonneg
  refine ⟨share x, fun nonpos => ?_⟩
  obtain ⟨low, high⟩ := share (-x) (by omega)
  rw [Int.neg_mul, Int.neg_tdiv] at low high
  omega

/-- A segment's line stays between its start speed and its end speed (R42). -/
theorem rampSpeed_range {v0 vt : Int} {k d : Nat} (start : InRange 0 20000 v0) (target : InRange 0 20000 vt) (le : k ≤ d) :
    InRange 0 20000 (rampSpeed v0 vt k d) := by
  obtain ⟨up, down⟩ := tdiv_share (vt - v0) le
  unfold rampSpeed InRange at *
  rcases Int.le_total 0 (vt - v0) with rise | fall
  · have := up rise
    omega
  · have := down fall
    omega

section
variable {s : State}

theorem addDistance_scheduleSound (sound : ScheduleSound s) : ScheduleSound (addDistance s) := by
  have speeds : (addDistance s).schedule.virtualSpeed = s.schedule.virtualSpeed ∧
      (addDistance s).schedule.active = s.schedule.active ∧
      (addDistance s).schedule.stopDeceleration = s.schedule.stopDeceleration := by
    unfold addDistance
    split <;> exact ⟨rfl, rfl, rfl⟩
  obtain ⟨speed, active, deceleration⟩ := speeds
  exact sound.of_schedule speed (by simp) active (deceleration ▸ sound.speedsFit.deceleration)
    (by rw [(addDistance_keeps s).2.2.2.1]; exact sound.speedsFit.pending)

theorem progress_scheduleSound {a : ActiveSegment} (active : s.schedule.active = some a) (sound : ScheduleSound s) :
    ScheduleSound (progress s a) := by
  obtain ⟨-, -, running, deceleration, pending, segment⟩ := sound
  obtain ⟨start, target⟩ := segment a active
  exact .of_running ⟨rampSpeed_range start target (Nat.min_le_right _ _), deceleration, pending⟩ rfl
    (running.mp (by simp [active])) start target

theorem enterDwell_scheduleSound (fit : SpeedsFit s) : ScheduleSound (enterDwell s) := by
  have queue : (enterDwell s).queue = s.queue := by simp
  refine .of_notRunning ⟨?_, ?_, ?_⟩ ?_ ?_ ?_
  · rw [enterDwell_schedule]; exact fit.speed
  · rw [enterDwell_schedule]; exact fit.deceleration
  · rw [queue]; exact fit.pending
  all_goals simp

theorem startSegment_scheduleSound {g : Segment} {rest : List Segment} (records : s.queue.records = g :: rest)
    (fit : SpeedsFit s) : ScheduleSound (startSegment s g) := by
  obtain ⟨queue, schedule, -⟩ := startSegment_eq s g rest records
  have pending := fit.pending
  rw [records] at pending
  refine .of_running (a := { record := g, startSpeed := s.schedule.virtualSpeed, startFrame := s.clock.f, elapsed := 0 })
    ⟨?_, ?_, ?_⟩ ?_ ?_ fit.speed (pending g List.mem_cons_self)
  · rw [schedule]; exact fit.speed
  · rw [schedule]; exact fit.deceleration
  · rw [queue]; exact fun x hx => pending x (List.mem_cons_of_mem _ hx)
  · rw [schedule]
  · rw [schedule]

theorem finishRun_scheduleSound {final : ScheduleState} (cause : Option StopCause) (state : final ≠ .running)
    (deceleration : InRange 1 20 s.schedule.stopDeceleration)
    (pending : ∀ g ∈ s.queue.records, InRange 0 20000 g.endSpeed) : ScheduleSound (finishRun s final cause) := by
  have queue : (finishRun s final cause).queue = s.queue := by simp
  refine .of_notRunning ⟨by simp [InRange], ?_, by rw [queue]; exact pending⟩ (by simp) (by simpa using state) (by simp)
  rw [finishRun_schedule]
  exact deceleration

theorem takeAtGate_scheduleSound (isOpen : gateOpen s = true) (fit : SpeedsFit s) : ScheduleSound (takeAtGate s) := by
  obtain ⟨g, rest, records⟩ := gateOpen_head isOpen
  by_cases closing : g.kind = .closing
  · rw [takeAtGate_of_closing records closing]
    have pending := fit.pending
    rw [records] at pending
    refine finishRun_scheduleSound none (by simp) ?_ ?_
    · have schedule : (takeHead s).schedule = s.schedule := by simp
      rw [schedule]; exact fit.deceleration
    · rw [takeHead_queue records]
      exact fun x hx => pending x (List.mem_cons_of_mem _ hx)
  · rw [takeAtGate_of_segment records closing]
    exact startSegment_scheduleSound records fit

theorem enterStopping_scheduleSound (cause : StopCause) (fit : SpeedsFit s) : ScheduleSound (enterStopping s cause) := by
  have queue : (enterStopping s cause).queue = s.queue := by simp
  refine .of_notRunning ⟨?_, ?_, by rw [queue]; exact fit.pending⟩ (by simp) (by simp) (by simp)
  · rw [enterStopping_schedule]; exact fit.speed
  · rw [enterStopping_schedule]; exact fit.deceleration

theorem enterAborted_scheduleSound (cause : StopCause) (sound : ScheduleSound s) : ScheduleSound (enterAborted s cause) := by
  have schedule : (placeRunStop s cause).schedule = s.schedule := by simp
  have queue : (placeRunStop s cause).queue = s.queue := by simp
  exact finishRun_scheduleSound _ (by simp) (by rw [schedule]; exact sound.speedsFit.deceleration)
    (by rw [queue]; exact sound.speedsFit.pending)

theorem reactRunning_scheduleSound (sound : ScheduleSound s) : ScheduleSound (reactRunning s) := by
  unfold reactRunning
  split
  case h_1 => exact addDistance_scheduleSound sound
  case h_2 a active =>
    have progressed := progress_scheduleSound active sound
    split
    case isTrue => exact addDistance_scheduleSound progressed
    case isFalse =>
      have fit : SpeedsFit (endSegment (progress s a) a.record) := by
        have queue : (endSegment (progress s a) a.record).queue = (progress s a).queue := by simp
        refine ⟨?_, ?_, ?_⟩
        · rw [endSegment_schedule]; exact progressed.speedsFit.speed
        · rw [endSegment_schedule]; exact progressed.speedsFit.deceleration
        · rw [queue]; exact progressed.speedsFit.pending
      unfold passGate
      split
      case isTrue isOpen => exact takeAtGate_scheduleSound isOpen fit
      case isFalse => exact enterDwell_scheduleSound fit

theorem reactDwell_scheduleSound (sound : ScheduleSound s) : ScheduleSound (reactDwell s) := by
  unfold reactDwell
  split
  case isTrue isOpen => exact takeAtGate_scheduleSound isOpen sound.speedsFit
  case isFalse =>
    have counted : ScheduleSound (countDwell s) :=
      sound.of_schedule rfl rfl rfl sound.speedsFit.deceleration sound.speedsFit.pending
    dsimp only
    split
    · exact addDistance_scheduleSound (enterStopping_scheduleSound _ counted.speedsFit)
    · exact addDistance_scheduleSound counted

/-- The stopping ramp ends at 0 and not below (R49). -/
theorem reactStopping_scheduleSound (stopping : s.schedule.state = .stopping) (sound : ScheduleSound s) :
    ScheduleSound (reactStopping s) := by
  obtain ⟨speed, -, running, deceleration, pending, -⟩ := sound
  have active : s.schedule.active = none := by
    cases active : s.schedule.active with
    | none => rfl
    | some a => simpa [stopping] using running.mp (by simp [active])
  unfold reactStopping
  dsimp only
  split
  case isTrue => exact finishRun_scheduleSound _ (by simp) deceleration pending
  case isFalse =>
    have lowered : InRange 0 20000 (rampDown s).schedule.virtualSpeed := by
      simp only [rampDown, State.withSchedule_schedule, InRange] at speed deceleration ⊢
      omega
    refine addDistance_scheduleSound (.of_notRunning ⟨lowered, deceleration, pending⟩ active ?_ (.inr (.inr stopping)))
    simp [rampDown, stopping]

theorem reactSchedule_scheduleSound (sound : ScheduleSound s) : ScheduleSound (reactSchedule s) := by
  unfold reactSchedule
  split
  case h_1 => exact sound
  case h_2 => exact sound
  case h_3 => exact sound
  case h_4 =>
    unfold reactArmed
    split
    case isTrue isOpen => exact takeAtGate_scheduleSound isOpen sound.speedsFit
    case isFalse => exact sound
  case h_5 => exact reactRunning_scheduleSound sound
  case h_6 => exact reactDwell_scheduleSound sound
  case h_7 stopping => exact reactStopping_scheduleSound stopping sound

end

theorem scheduleSound_runStable : RunStable ScheduleSound where
  quiet _ _ queue schedule _ _ _ sound := sound.of_fields schedule queue
  entry _ _ sound := sound.of_fields (by simp) (by simp)
  slipOpened _ _ sound := sound.of_fields (by simp) (by simp)
  slipClosed _ _ sound := sound.of_fields (by simp) (by simp)
  traceOpened _ sound := sound.of_fields (by simp) (by simp)
  traceClosed _ sound := sound.of_fields (by simp) (by simp)
  abort _ cause _ sound := enterAborted_scheduleSound cause sound
  stop _ cause _ sound := enterStopping_scheduleSound cause sound.speedsFit

/-- A record whose ranges were checked has its end speed in range (R15). -/
theorem segmentOf_endSpeed {r : RawRecord} (inRange : RecordInRange r) : InRange 0 20000 (segmentOf r).endSpeed := by
  obtain ⟨-, -, target, -⟩ := inRange
  by_cases ramp : r.kindBits = 1
  · have : (segmentOf r).endSpeed = r.target := by simp [segmentOf, ramp, Segment.endSpeed]
    rw [this]
    omega
  · have : (segmentOf r).endSpeed = 0 := by
      by_cases stand : r.kindBits = 2 <;> simp [segmentOf, ramp, stand, Segment.endSpeed]
    rw [this]
    omega

theorem checkRecords_endSpeeds (rs : List RawRecord) :
    ∀ (t : Trial) (position : Nat) (segments : List Segment) (last : Trial),
      checkRecords t position rs = .ok (segments, last) → ∀ g ∈ segments, InRange 0 20000 g.endSpeed := by
  induction rs with
  | nil =>
    intro t position segments last ok
    obtain ⟨rfl, -⟩ : [] = segments ∧ t = last := by simpa [checkRecords] using ok
    simp
  | cons r rest ih =>
    intro t position segments last ok g hg
    obtain ⟨passes, more, rfl, others⟩ := checkRecords_cons_ok ok
    obtain ⟨-, inRange, -, -⟩ := recordRefusal_none passes
    rcases List.mem_cons.mp hg with rfl | later
    · exact segmentOf_endSpeed inRange
    · exact ih _ _ _ _ others g later

theorem Request.scheduleSound {h : State → Served} (request : Request h) {s : State} (sound : ScheduleSound s) :
    ScheduleSound (h s).state := by
  cases request with
  | reset p =>
    obtain same | ⟨-, same⟩ := resetRequest_state_cases p s
    · rw [same]; exact sound
    · rw [same]
      exact .of_notRunning ⟨by simp [softReset, Schedule.soft, Schedule.atReset, InRange], sound.speedsFit.deceleration, nofun⟩ rfl
        (by simp [softReset, Schedule.soft, Schedule.atReset]) (.inl rfl)
  | block records =>
    obtain same | ⟨rs, segments, last, -, -, ok, same⟩ := blockRequest_state_cases records s
    · rw [same]; exact sound
    · rw [same]
      refine sound.of_schedule rfl rfl rfl sound.speedsFit.deceleration fun g hg => ?_
      rcases List.mem_append.mp (show g ∈ s.queue.records ++ segments from hg) with earlier | joined
      · exact sound.speedsFit.pending g earlier
      · exact checkRecords_endSpeeds rs _ _ _ _ ok g joined
  | flush p =>
    cases p with
    | misfit => exact sound
    | fits x => exact sound.of_schedule rfl rfl rfl sound.speedsFit.deceleration nofun
  | startRun p =>
    obtain same | ⟨-, -, -, same⟩ := startRunRequest_state_cases p s
    · rw [same]; exact sound
    · rw [same]
      exact .of_notRunning ⟨by simp [armRun, InRange], sound.speedsFit.deceleration, sound.speedsFit.pending⟩ rfl (by simp [armRun])
        (.inl rfl)
  | abortRun p =>
    obtain same | ⟨armed, same⟩ | ⟨underWay, same⟩ := abortRunRequest_state_cases p s
    · rw [same]; exact sound
    · rw [same]; exact enterAborted_scheduleSound _ sound
    · rw [same]; exact enterStopping_scheduleSound _ sound.speedsFit
  | closeRun p =>
    obtain same | ⟨finished, same⟩ := closeRunRequest_state_cases p s
    · rw [same]; exact sound
    · rw [same]
      have zero : s.schedule.virtualSpeed = 0 := sound.2.1 (by rcases finished with h | h <;> simp [h])
      have active : s.schedule.active = none := by
        cases active : s.schedule.active with
        | none => rfl
        | some a =>
          have running := sound.2.2.1.mp (by simp [active])
          rcases finished with h | h <;> simp [h] at running
      exact .of_notRunning ⟨by simpa using sound.speedsFit.speed, sound.speedsFit.deceleration, nofun⟩ active (by simp)
        (.inl zero)
  | setRun p =>
    obtain same | ⟨r, policy, -, inRange, same⟩ := setRunRequest_state_cases p s
    · rw [same]; exact sound
    · rw [same]; exact sound.of_schedule rfl rfl rfl inRange.2.1 sound.speedsFit.pending
  | hello n payload => exact scheduleSound_runStable.helloRequest n payload sound
  | poll n payload => exact scheduleSound_runStable.pollRequest n payload sound
  | reads h nothing => exact (nothing s).symm ▸ sound
  | _ => exact sound.of_fields (by simp) (by simp)

theorem assertSafeStop_scheduleSound {s : State} (sound : ScheduleSound s) : ScheduleSound (assertSafeStop s) := by
  have latched : ScheduleSound { s with safety := .safeAsserted, safeStopAsserted := true } := sound.of_fields rfl rfl
  unfold assertSafeStop
  dsimp only
  split
  · exact latched
  · exact scheduleSound_runStable.safeStopReactions latched

theorem scheduleReaction_scheduleSound {s : State} (sound : ScheduleSound s) : ScheduleSound (scheduleReaction s) :=
  (reactSchedule_scheduleSound (sound.of_fields (t := clearLines s) rfl rfl)).of_fields rfl rfl

theorem atReset_scheduleSound (asserted : Bool) : ScheduleSound (State.atReset asserted) :=
  .of_notRunning
    ⟨by simp [State.atReset, Schedule.atReset, InRange], by simp [State.atReset, Schedule.atReset, InRange], nofun⟩ rfl
    (by simp [State.atReset, Schedule.atReset]) (.inl rfl)

theorem scheduleSound_stable : Stable ScheduleSound where
  receiver _ _ _ sound := sound.of_fields (by simp) (by simp)
  taken _ r _ sound :=
    have sound := sound.of_fields rfl rfl
    scheduleSound_runStable.react r (scheduleReaction_scheduleSound sound) sound
  begins _ _ _ sound := sound.of_schedule rfl rfl rfl sound.speedsFit.deceleration sound.speedsFit.pending
  request _ request _ _ sound := request.scheduleSound sound
  broken _ n _ sound := scheduleSound_runStable.loseLink n sound
  asserted _ sound := assertSafeStop_scheduleSound sound
  deasserted _ sound := sound.of_fields rfl rfl
  outputs _ _ _ _ sound := sound.of_fields rfl rfl
  position _ _ _ _ sound := sound.of_fields rfl rfl
  drawn _ _ sound := sound.of_fields rfl rfl
  held _ sound := sound.of_fields rfl rfl
  full asserted _ _ := atReset_scheduleSound asserted

/-- Settles O57: the schedule and the absence of a run out of NORMAL are each stable under everything a step is made of. -/
theorem scheduleStaysSound : Obligations.ScheduleStaysSound := fun _ _ stepped =>
  ⟨fun schedule => step_keeps scheduleSound_stable (fun _ _ sound => sound.of_fields rfl rfl) schedule stepped,
    fun safe => step_keeps safeStopSound_stable (fun _ _ sound => sound.of_schedule rfl rfl) safe stepped⟩

end Sys2Proof.Machine

/-!
PROOF. Every step keeps the hold set's expiries (R67, R69): what stands after the expiries of a boundary is later than F, and
F advances only where every boundary before has been taken in full.
-/
namespace Sys2Proof.Machine
open Sys2Proof

/-- The expiry of the entry `e` of `who`, where F is `f` and the expiries of the boundary are owed or taken. -/
structure ExpirySound (f : Nat) (owed : Prop) (who : Holder) (e : HoldEntry) : Prop where
  axis : ∀ n : Axis, who = .axis n → e.expiry = none
  ahead : ∀ x ∈ e.expiry, f ≤ x ∧ (¬ owed → f < x)

theorem ExpirySound.of_none {f : Nat} {owed : Prop} {who : Holder} {e : HoldEntry} (none : e.expiry = none) :
    ExpirySound f owed who e := ⟨fun _ _ => none, by simp [none]⟩

theorem holdsSound_iff (s : State) :
    HoldsSound s ↔ ∀ who, ∀ e ∈ s.holds.get who, ExpirySound s.clock.f (.holds ∈ s.boundary.owed) who e := by
  constructor
  · rintro ⟨axis, ahead⟩ who e entry
    exact ⟨fun n same => axis n e (same ▸ entry), fun x expiry => ahead who e x entry expiry⟩
  · exact fun sound => ⟨fun n e entry => (sound (.axis n) e entry).axis n rfl,
      fun who e x entry expiry => (sound who e entry).ahead x expiry⟩

namespace HoldsSound
variable {s t : State}

/-- Entries that stood before, or never expire, at a frame not later than before, with no more reactions taken. -/
theorem of_entries (sound : HoldsSound s) (frame : t.clock.f ≤ s.clock.f)
    (owed : .holds ∈ s.boundary.owed → .holds ∈ t.boundary.owed)
    (entries : ∀ who, ∀ e ∈ t.holds.get who, e.expiry = none ∨ ∃ before ∈ s.holds.get who, e.expiry = before.expiry) :
    HoldsSound t := by
  refine (holdsSound_iff t).mpr fun who e entry => ?_
  obtain none | ⟨before, stood, same⟩ := entries who e entry
  · exact .of_none none
  · obtain ⟨axis, ahead⟩ := (holdsSound_iff s).mp sound who before stood
    refine ⟨fun n here => same.trans (axis n here), fun x expiry => ?_⟩
    obtain ⟨notBefore, after⟩ := ahead x (same ▸ expiry)
    exact ⟨frame.trans notBefore, fun taken => frame.trans_lt (after (mt owed taken))⟩

theorem of_holds (sound : HoldsSound s) (frame : t.clock.f = s.clock.f) (boundary : t.boundary = s.boundary)
    (holds : t.holds = s.holds) : HoldsSound t :=
  sound.of_entries frame.le (by rw [boundary]; exact id) fun who e entry => .inr ⟨e, by rw [← holds]; exact entry, rfl⟩

theorem of_clock (sound : HoldsSound s) (clock : t.clock = s.clock) (boundary : t.boundary = s.boundary)
    (holds : t.holds = s.holds) : HoldsSound t := sound.of_holds (by rw [clock]) boundary holds

theorem setHold (sound : HoldsSound s) {who : Holder} {e : Option HoldEntry}
    (placed : ∀ x ∈ e, ExpirySound s.clock.f (.holds ∈ s.boundary.owed) who x) : HoldsSound (s.setHold who e) := by
  refine (holdsSound_iff _).mpr fun other x entry => ?_
  simp only [State.setHold_keeps] at entry ⊢
  rw [State.setHold_holds, HoldSet.get_put] at entry
  by_cases here : other = who
  · subst here
    exact placed x (by simpa using entry)
  · exact (holdsSound_iff s).mp sound other x (by simpa [here] using entry)

theorem removeHold (sound : HoldsSound s) (who : Holder) : HoldsSound (s.setHold who none) := sound.setHold nofun

theorem of_no_expiry (entries : ∀ who, ∀ e ∈ t.holds.get who, e.expiry = none) : HoldsSound t :=
  (holdsSound_iff t).mpr fun who e entry => .of_none (entries who e entry)

end HoldsSound

/-! ## The expiries of a boundary (R69) -/

theorem expireHold_hold (s : State) (who other : Holder) :
    (expireHold s who).holds.get other =
      if other = who then (s.holds.get other).filter fun e => e.expiry ≠ some s.clock.f else s.holds.get other := by
  have removed (e : HoldEntry) : (let t := s.setHold who none
      if s.boundary.foundActive then placeEntry t (expiredEntry s who e) else t).holds = s.holds.put who none := by
    dsimp only
    split <;> simp
  unfold expireHold
  split
  case h_1 absent => by_cases here : other = who <;> simp [here, absent]
  case h_2 e present =>
    split
    case isTrue expires =>
      rw [removed, HoldSet.get_put]
      by_cases here : other = who <;> simp [here, present, expires, Option.filter_some]
    case isFalse stays => by_cases here : other = who <;> simp [here, present, stays, Option.filter_some]

theorem foldl_expireHold_hold (xs : List Holder) (s : State) (who : Holder) :
    (xs.foldl expireHold s).holds.get who =
      if who ∈ xs then (s.holds.get who).filter fun e => e.expiry ≠ some s.clock.f else s.holds.get who := by
  induction xs generalizing s with
  | nil => simp
  | cons x xs ih =>
    rw [List.foldl_cons, ih, expireHold_hold, (expireHold_keeps s x).2.1]
    by_cases here : who = x <;> by_cases later : who ∈ xs <;> simp [here, later, Option.filter_filter]

theorem mem_holders (who : Holder) : who ∈ holders := by
  cases who with
  | external src => cases src <;> simp [holders]
  | axis n => fin_cases n <;> simp [holders]

/-- After the Hold Set's reaction the entries are those that do not expire in this frame. -/
theorem holdsReaction_hold (s : State) (who : Holder) :
    (holdsReaction s).holds.get who = (s.holds.get who).filter fun e => e.expiry ≠ some s.clock.f := by
  rw [holdsReaction, foldl_expireHold_hold, if_pos (mem_holders who)]

/-! ## Reactions and requests -/

theorem raiseCause_holdsSound (s : State) (n : Axis) (c : Cause) (code : Option Byte) (sound : HoldsSound s) :
    HoldsSound (raiseCause s n c code) := by
  have clock : (raiseCause s n c code).clock = s.clock := by simp
  refine sound.of_entries (by rw [clock]) (by simp) fun who e entry => ?_
  rw [raiseCause_holds] at entry
  by_cases clear : (s.latch n).state = .clear
  · rw [if_pos clear, HoldSet.get_put] at entry
    by_cases here : who = .axis n
    · rw [if_pos here] at entry
      obtain rfl : faultHold s c = e := by simpa using entry
      exact .inl rfl
    · exact .inr ⟨e, by simpa [here] using entry, rfl⟩
  · exact .inr ⟨e, by simpa [clear] using entry, rfl⟩

theorem holdsSound_linkStable : LinkStable HoldsSound where
  axis _ _ _ _ sound := sound.of_clock (by simp) (by simp) (by simp)
  link _ _ _ _ sound := sound.of_clock (by simp) (by simp) (by simp)
  loss _ _ sound := sound.of_clock rfl rfl rfl
  cause := raiseCause_holdsSound
  slipOpened _ _ sound := sound.of_clock (by simp) (by simp) (by simp)
  slipClosed _ _ sound := sound.of_clock (by simp) (by simp) (by simp)

theorem setLink_holdsSound (s : State) (n : Axis) (l : DriveLink) (sound : HoldsSound s) : HoldsSound (s.setLink n l) :=
  sound.of_clock (by simp) (by simp) (by simp)

theorem loseLink_holdsSound {s : State} (n : Axis) (sound : HoldsSound s) : HoldsSound (loseLink s n) :=
  holdsSound_linkStable.loseLink n setLink_holdsSound sound

theorem miswire_holdsSound (s : State) (n : Axis) (sound : HoldsSound s) : HoldsSound (miswire s n) :=
  holdsSound_linkStable.miswire n setLink_holdsSound sound

theorem limitReaction_clock_f (s : State) : (limitReaction s).clock.f = s.clock.f := by
  obtain same | ⟨-, -, same⟩ | ⟨-, -, same⟩ := limitReaction_cases s
  · rw [same]
  · rw [same, (enterAborted_keeps _ _).2.1]; rfl
  · rw [same]; rfl

theorem react_holdsSound (r : Reaction) {s : State} (sound : HoldsSound s) : HoldsSound (react r s) := by
  cases r with
  | schedule =>
    obtain ⟨lines, clock⟩ := scheduleReaction_clock s
    exact sound.of_holds (by simp [react, clock]) (by simp) (by simp [react])
  | holds =>
    have boundary : (holdsReaction s).boundary = s.boundary := by simp
    have clock : (holdsReaction s).clock = s.clock := by simp
    refine sound.of_entries (t := holdsReaction s) (by rw [clock]) (by rw [boundary]; exact id) fun who e entry => ?_
    rw [holdsReaction_hold] at entry
    exact .inr ⟨e, (Option.mem_filter_iff.mp entry).1, rfl⟩
  | link n => exact holdsSound_linkStable.linkReaction n setLink_holdsSound sound
  | limit => exact sound.of_holds (limitReaction_clock_f s) (by simp) (by simp [react])
  | _ => exact sound.of_clock (by simp [react]) (by simp [react]) (by simp [react])

/-- Taking the expiries leaves no entry of this frame; taking another reaction leaves them owed as before. -/
theorem takeReaction_holdsSound (r : Reaction) {s : State} (sound : HoldsSound s) :
    HoldsSound (react r { s with boundary := { s.boundary with owed := s.boundary.owed.filter (· ≠ r) } }) := by
  by_cases expiries : r = .holds
  · subst expiries
    refine (holdsSound_iff _).mpr fun who e entry => ?_
    change e ∈ (holdsReaction _).holds.get who at entry
    change ExpirySound (holdsReaction _).clock.f _ who e
    rw [holdsReaction_hold] at entry
    obtain ⟨stood, stays⟩ := Option.mem_filter_iff.mp entry
    obtain ⟨axis, ahead⟩ := (holdsSound_iff s).mp sound who e stood
    rw [(holdsReaction_keeps _).2.1]
    refine ⟨axis, fun x expiry => ?_⟩
    obtain ⟨notBefore, -⟩ := ahead x expiry
    have : s.clock.f ≠ x := fun same => by simp [same, Option.mem_def.mp expiry] at stays
    exact ⟨notBefore, fun _ => show s.clock.f < x by omega⟩
  · refine react_holdsSound r (sound.of_entries le_rfl (fun owed => ?_) fun who e entry => .inr ⟨e, entry, rfl⟩)
    exact List.mem_filter.mpr ⟨owed, by simpa using Ne.symm expiries⟩

theorem softReset_holdsSound (s : State) (sound : HoldsSound s) : HoldsSound (softReset s) := by
  refine .of_no_expiry fun who e entry => ?_
  cases who with
  | external src => cases src <;> cases entry
  | axis n =>
    rw [softReset_hold] at entry
    obtain ⟨before, stood, rfl⟩ := Option.mem_map.mp entry
    exact sound.1 n before stood

theorem Request.holdsSound {h : State → Served} (request : Request h) {s : State}
    (sound : HoldsSound s) : HoldsSound (h s).state := by
  cases request with
  | setClock p =>
    refine sound.of_holds ?_ (by simp) (by simp)
    unfold setClockRequest
    split
    · rfl
    · split
      · rfl
      · split <;> rfl
  | clockStart p =>
    refine sound.of_holds ?_ (by simp) (by simp)
    unfold clockStartRequest
    split
    · rfl
    · split <;> rfl
  | clockHalt p =>
    refine sound.of_holds ?_ (by simp) (by simp)
    unfold clockHaltRequest
    split
    · rfl
    · split
      · rfl
      · split <;> rfl
  | reset p =>
    obtain same | ⟨-, same⟩ := resetRequest_state_cases p s
    · rw [same]; exact sound
    · rw [same]; exact softReset_holdsSound s sound
  | hold src p =>
    obtain same | ⟨e, ahead, same⟩ := holdRequest_state_cases src p s
    · rw [same]; exact sound
    · rw [same]
      refine sound.setHold fun x placed => ?_
      obtain rfl : e = x := by simpa using placed
      exact ⟨nofun, fun x expiry => ⟨(ahead x expiry).le, fun _ => ahead x expiry⟩⟩
  | release src p =>
    obtain same | same := releaseRequest_state_cases src p s
    · rw [same]; exact sound
    · rw [same]; exact sound.removeHold _
  | releaseHolder p =>
    obtain same | ⟨who, same⟩ | same := releaseHolderRequest_state_cases p s
    · rw [same]; exact sound
    · rw [same]; exact sound.removeHold _
    · rw [same]
      refine sound.of_entries (t := clearExternal s) le_rfl id fun who e entry => ?_
      cases who with
      | external src => cases src <;> cases entry
      | axis n => exact .inr ⟨e, entry, rfl⟩
  | clearFault p =>
    obtain same | ⟨n, -, same⟩ := clearFaultRequest_state_cases p s
    · rw [same]; exact sound
    · rw [same]
      refine sound.of_entries (by simp) (by simp) fun who e entry => ?_
      rw [clearFault_hold] at entry
      by_cases here : who = .axis n
      · simp [here] at entry
      · exact .inr ⟨e, by simpa [here] using entry, rfl⟩
  | hello n payload => exact holdsSound_linkStable.helloRequest n miswire_holdsSound payload sound
  | poll n payload => exact holdsSound_linkStable.pollRequest n miswire_holdsSound payload sound
  | reads h nothing => exact (nothing s).symm ▸ sound
  | _ => exact sound.of_clock (by simp) (by simp) (by simp)

/-- F advances where nothing is owed, so every expiry is later than the F before. -/
theorem beginBoundary_holdsSound {s : State} (settled : s.boundary.owed = []) (sound : HoldsSound s) :
    HoldsSound (beginBoundary s) := by
  refine (holdsSound_iff _).mpr fun who e entry => ?_
  obtain ⟨axis, ahead⟩ := (holdsSound_iff s).mp sound who e (by simpa using entry)
  refine ⟨axis, fun x expiry => ⟨(ahead x expiry).2 (by simp [settled]), fun taken => ?_⟩⟩
  exact absurd (show Reaction.holds ∈ reactions from mem_reactions _) taken

theorem atReset_holdsSound (asserted : Bool) : HoldsSound (State.atReset asserted) :=
  .of_no_expiry fun who e entry => by
    cases who with
    | external src => cases src <;> cases entry
    | axis n => exact absurd entry (by simp [State.atReset, HoldSet.atReset, HoldSet.get, Four.get_all])

theorem holdsSound_stable : Stable HoldsSound where
  receiver _ _ _ sound := sound.of_clock (by simp) (by simp) (by simp)
  taken _ r _ sound := takeReaction_holdsSound r sound
  begins _ settled _ sound := beginBoundary_holdsSound settled sound
  request _ request _ _ sound := request.holdsSound sound
  broken _ n _ sound := loseLink_holdsSound n sound
  asserted _ sound := sound.of_clock (by simp) (by simp) (by simp)
  deasserted _ sound := sound.of_clock rfl rfl rfl
  outputs _ _ _ _ sound := sound.of_holds rfl rfl rfl
  position _ _ _ _ sound := sound.of_holds rfl rfl rfl
  drawn _ _ sound := sound.of_clock rfl rfl rfl
  held _ sound := sound.of_holds rfl rfl rfl
  full asserted _ _ := atReset_holdsSound asserted

end Sys2Proof.Machine

/-!
PROOF. Every step keeps the run record's capacities and references (R180 to R185): an episode is opened in an active run
alone, and the end of a run closes every episode.
-/
namespace Sys2Proof.Machine
open Sys2Proof

/-! ## The record by itself -/

/-- The part of `RecordSound` that is about the lists: their capacities, and every reference a position in the list. -/
structure RunRecord.ListsSound (r : RunRecord) : Prop where
  phases : r.phases.length ≤ 16
  exceptions : r.exceptions.length ≤ 32
  dwell : ReferenceSound r r.dwellRef
  trace : ReferenceSound r r.traceRef
  slip : ∀ n : Axis, ReferenceSound r (r.slipRef.get n)

/-- No episode is referred to. -/
structure RunRecord.NoneOpen (r : RunRecord) : Prop where
  dwell : r.dwellRef = none
  trace : r.traceRef = none
  slip : ∀ n : Axis, r.slipRef.get n = none

theorem recordSound_iff (s : State) :
    RecordSound s ↔
      s.record.ListsSound ∧ (s.schedule.state ≠ .idle → s.record.state = s.schedule.state.runState .none) ∧
        (s.runActive = false → s.record.NoneOpen) := by
  constructor
  · rintro ⟨phases, exceptions, state, dwell, trace, slip, closed⟩
    exact ⟨⟨phases, exceptions, dwell, trace, slip⟩, state, fun inactive =>
      have ⟨noDwell, noTrace, noSlip⟩ := closed inactive
      ⟨noDwell, noTrace, noSlip⟩⟩
  · rintro ⟨lists, state, closed⟩
    exact ⟨lists.phases, lists.exceptions, state, lists.dwell, lists.trace, lists.slip, fun inactive =>
      have noneOpen := closed inactive
      ⟨noneOpen.dwell, noneOpen.trace, noneOpen.slip⟩⟩

theorem referenceSound_none (r : RunRecord) : ReferenceSound r none := nofun

/-- A list that grows keeps the positions in it. -/
theorem ReferenceSound.mono {r x : RunRecord} {reference : Option Nat} (sound : ReferenceSound r reference)
    (grows : r.exceptions.length ≤ x.exceptions.length) : ReferenceSound x reference :=
  fun p refers => ⟨(sound p refers).1, (sound p refers).2.trans grows⟩

namespace RunRecord
variable {r x : RunRecord}

theorem NoneOpen.listsSound (noneOpen : r.NoneOpen) (phases : r.phases.length ≤ 16)
    (exceptions : r.exceptions.length ≤ 32) : r.ListsSound where
  phases := phases
  exceptions := exceptions
  dwell := noneOpen.dwell ▸ referenceSound_none r
  trace := noneOpen.trace ▸ referenceSound_none r
  slip n := noneOpen.slip n ▸ referenceSound_none r

/-- References kept or dropped, with lists within their capacities. -/
theorem ListsSound.of_refs (sound : r.ListsSound) (phases : x.phases.length ≤ 16)
    (exceptions : x.exceptions.length ≤ 32) (grows : r.exceptions.length ≤ x.exceptions.length)
    (dwell : x.dwellRef = r.dwellRef ∨ x.dwellRef = none) (trace : x.traceRef = r.traceRef ∨ x.traceRef = none)
    (slip : ∀ n, x.slipRef.get n = r.slipRef.get n ∨ x.slipRef.get n = none) : x.ListsSound := by
  have reference {old new : Option Nat} (before : ReferenceSound r old) (same : new = old ∨ new = none) :
      ReferenceSound x new := by
    rcases same with rfl | rfl
    · exact before.mono grows
    · exact referenceSound_none x
  exact ⟨phases, exceptions, reference sound.dwell dwell, reference sound.trace trace, fun n => reference (sound.slip n) (slip n)⟩

theorem place_refs (r : RunRecord) (e : ExceptionEntry) :
    (r.place e).phases = r.phases ∧ (r.place e).state = r.state ∧ (r.place e).dwellRef = r.dwellRef ∧
    (r.place e).slipRef = r.slipRef ∧ (r.place e).traceRef = r.traceRef := by
  unfold place
  split <;> exact ⟨rfl, rfl, rfl, rfl, rfl⟩

theorem length_place (r : RunRecord) (e : ExceptionEntry) :
    (r.place e).exceptions.length = if r.exceptions.length < 32 then r.exceptions.length + 1 else r.exceptions.length := by
  unfold place
  split <;> simp

theorem ListsSound.place (sound : r.ListsSound) (e : ExceptionEntry) : (r.place e).ListsSound := by
  obtain ⟨phases, -, dwell, slip, trace⟩ := place_refs r e
  have length := length_place r e
  have capacity := sound.exceptions
  refine sound.of_refs (phases ▸ sound.phases) ?_ ?_ (.inl dwell) (.inl trace) fun n => .inl (by rw [slip])
  all_goals
    rw [length]
    split <;> omega

theorem NoneOpen.place (noneOpen : r.NoneOpen) (e : ExceptionEntry) : (r.place e).NoneOpen := by
  obtain ⟨-, -, dwell, slip, trace⟩ := place_refs r e
  exact ⟨dwell ▸ noneOpen.dwell, trace ▸ noneOpen.trace, slip ▸ noneOpen.slip⟩

/-- An opened episode's reference is the position of its entry, the last of the list. -/
theorem ListsSound.open (sound : r.ListsSound) (e : ExceptionEntry) (refer : RunRecord → Nat → RunRecord)
    (refers : ∀ (x : RunRecord) (p : Nat), x.ListsSound → ReferenceSound x (some p) → (refer x p).ListsSound) :
    (r.open e refer).ListsSound := by
  unfold RunRecord.open
  split
  case isTrue room =>
    refine refers _ _ (sound.place e) fun p position => ?_
    obtain rfl : r.exceptions.length + 1 = p := by simpa using position
    rw [length_place, if_pos room]
    omega
  case isFalse => exact sound.place e

theorem open_state (r : RunRecord) (e : ExceptionEntry) (refer : RunRecord → Nat → RunRecord)
    (keeps : ∀ x p, (refer x p).state = x.state) : (r.open e refer).state = r.state := by
  unfold RunRecord.open
  split
  · rw [keeps, (place_refs r e).2.1]
  · rw [(place_refs r e).2.1]

end RunRecord

/-! ## Soundness in a state -/

namespace RecordSound
variable {s t : State}

theorem lists (sound : RecordSound s) : s.record.ListsSound := ((recordSound_iff s).mp sound).1

theorem noneOpen (sound : RecordSound s) (inactive : s.runActive = false) : s.record.NoneOpen :=
  ((recordSound_iff s).mp sound).2.2 inactive

theorem runState (sound : RecordSound s) (underWay : s.schedule.state ≠ .idle) :
    s.record.state = s.schedule.state.runState .none := ((recordSound_iff s).mp sound).2.1 underWay

theorem of_state (sound : RecordSound s) (state : t.schedule.state = s.schedule.state) (record : t.record = s.record) :
    RecordSound t := by
  refine (recordSound_iff t).mpr ?_
  rw [record, State.runActive_of_state state, state]
  exact (recordSound_iff s).mp sound

/-- The record takes new lists and keeps its run state. -/
theorem of_lists (sound : RecordSound s) (state : t.schedule.state = s.schedule.state) (lists : t.record.ListsSound)
    (runState : t.record.state = s.record.state) (noneOpen : s.runActive = false → t.record.NoneOpen) :
    RecordSound t := by
  refine (recordSound_iff t).mpr ⟨lists, fun underWay => ?_, fun inactive => ?_⟩
  · rw [runState, state]
    exact sound.runState (state ▸ underWay)
  · exact noneOpen ((State.runActive_of_state state).symm.trans inactive)

theorem of_active (active : t.runActive = true) (lists : t.record.ListsSound)
    (runState : t.record.state = t.schedule.state.runState .none) : RecordSound t :=
  (recordSound_iff t).mpr ⟨lists, fun _ => runState, fun inactive => by simp [active] at inactive⟩

theorem of_noneOpen (phases : t.record.phases.length ≤ 16) (exceptions : t.record.exceptions.length ≤ 32)
    (noneOpen : t.record.NoneOpen)
    (runState : t.schedule.state ≠ .idle → t.record.state = t.schedule.state.runState .none) : RecordSound t :=
  (recordSound_iff t).mpr ⟨noneOpen.listsSound phases exceptions, runState, fun _ => noneOpen⟩

end RecordSound

/-! ## Entries and episodes -/

section
variable {s : State}

theorem placeEntry_recordSound (e : ExceptionEntry) (sound : RecordSound s) : RecordSound (placeEntry s e) := by
  rw [placeEntry_eq]
  exact sound.of_lists rfl (sound.lists.place e) (RunRecord.place_refs _ _).2.1 fun inactive => (sound.noneOpen inactive).place e

/-- An episode is opened in an active run alone. -/
theorem openEpisode_recordSound (sound : RecordSound s) (active : s.runActive = true) (e : ExceptionEntry)
    (refer : RunRecord → Nat → RunRecord)
    (refers : ∀ (x : RunRecord) (p : Nat), x.ListsSound → ReferenceSound x (some p) → (refer x p).ListsSound)
    (keeps : ∀ x p, (refer x p).state = x.state) : RecordSound { s with record := s.record.open e refer } :=
  sound.of_lists rfl (sound.lists.open e refer refers) (RunRecord.open_state _ _ _ keeps)
    fun inactive => by simp [active] at inactive

theorem refersDwell (x : RunRecord) (p : Nat) (lists : x.ListsSound) (position : ReferenceSound x (some p)) :
    RunRecord.ListsSound { x with dwellRef := some p } :=
  ⟨lists.phases, lists.exceptions, position, lists.trace, lists.slip⟩

theorem refersTrace (x : RunRecord) (p : Nat) (lists : x.ListsSound) (position : ReferenceSound x (some p)) :
    RunRecord.ListsSound { x with traceRef := some p } :=
  ⟨lists.phases, lists.exceptions, lists.dwell, position, lists.slip⟩

theorem refersSlip (n : Axis) (x : RunRecord) (p : Nat) (lists : x.ListsSound) (position : ReferenceSound x (some p)) :
    RunRecord.ListsSound { x with slipRef := x.slipRef.set n (some p) } :=
  ⟨lists.phases, lists.exceptions, lists.dwell, lists.trace, fun m => by
    rw [Four.get_set]
    split
    · exact position
    · exact lists.slip m⟩

theorem openSlip_recordSound (n : Axis) (sound : RecordSound s) : RecordSound (openSlip s n) := by
  cases active : s.runActive with
  | true =>
    rw [openSlip_of_active active]
    exact openEpisode_recordSound sound active _ _ (refersSlip n) fun _ _ => rfl
  | false => rw [openSlip_of_inactive active]; exact sound

theorem openTrace_recordSound (sound : RecordSound s) : RecordSound (openTrace s) := by
  cases active : s.runActive with
  | true =>
    rw [openTrace_of_active active]
    exact openEpisode_recordSound sound active _ _ refersTrace fun _ _ => rfl
  | false => rw [openTrace_of_inactive active]; exact sound

theorem closeDwell_listsSound (sound : s.record.ListsSound) : (closeDwell s).record.ListsSound := by
  rw [closeDwell_eq]
  exact sound.of_refs sound.phases (by simpa using sound.exceptions) (by simp) (.inr rfl) (.inl rfl) fun _ => .inl rfl

theorem closeSlip_recordSound (n : Axis) (sound : RecordSound s) : RecordSound (closeSlip s n) := by
  have slip (m : Axis) : (s.record.slipRef.set n none).get m = s.record.slipRef.get m ∨
      (s.record.slipRef.set n none).get m = none := by
    rw [Four.get_set]
    split
    · exact .inr rfl
    · exact .inl rfl
  rw [closeSlip_eq_closedAt]
  refine sound.of_lists rfl (sound.lists.of_refs sound.lists.phases ?_ ?_ (.inl rfl) (.inl rfl) slip) rfl
    fun inactive => ?_
  · simpa using sound.lists.exceptions
  · simp
  · have before := sound.noneOpen inactive
    exact ⟨before.dwell, before.trace, fun m => (slip m).elim (fun same => same.trans (before.slip m)) id⟩

theorem closeTrace_recordSound (sound : RecordSound s) : RecordSound (closeTrace s) := by
  rw [closeTrace_eq]
  refine sound.of_lists rfl (sound.lists.of_refs sound.lists.phases ?_ ?_ (.inl rfl) (.inr rfl) fun _ => .inl rfl) rfl
    fun inactive => ?_
  · simpa using sound.lists.exceptions
  · simp
  · have before := sound.noneOpen inactive
    exact ⟨before.dwell, rfl, before.slip⟩

/-! ## The run's changes of state -/

theorem finishRun_record_state {final : ScheduleState} (cause : Option StopCause) :
    (finishRun s final cause).record.state = final.runState s.record.state := by
  unfold finishRun
  rw [closeEpisodes_eq]
  rfl

/-- The end of a run closes every episode (R185). -/
theorem finishRun_recordSound {final : ScheduleState} (cause : Option StopCause)
    (runState : final.runState s.record.state = final.runState .none) (lists : s.record.ListsSound) :
    RecordSound (finishRun s final cause) := by
  refine .of_noneOpen ?_ ?_ ?_ fun _ => ?_
  · unfold finishRun
    rw [closeEpisodes_eq]
    exact lists.phases
  · unfold finishRun
    rw [closeEpisodes_eq]
    simpa using lists.exceptions
  · unfold finishRun
    rw [closeEpisodes_eq]
    exact ⟨rfl, rfl, Four.get_all _⟩
  · rw [finishRun_record_state, finishRun_schedule]
    exact runState

theorem enterAborted_recordSound (cause : StopCause) (lists : s.record.ListsSound) :
    RecordSound (enterAborted s cause) := by
  have placed : (placeRunStop s cause).record.ListsSound := by
    unfold placeRunStop
    rw [placeEntry_eq]
    exact lists.place _
  exact finishRun_recordSound _ rfl placed

theorem enterStopping_recordSound (cause : StopCause) (lists : s.record.ListsSound) :
    RecordSound (enterStopping s cause) := by
  have dwellClosed : (if s.schedule.state = .dwell then closeDwell s else s).record.ListsSound := by
    split
    · exact closeDwell_listsSound lists
    · exact lists
  refine placeEntry_recordSound _ (.of_active ?_ ?_ ?_)
  · exact (runActive_iff _).mpr (by simp)
  · exact dwellClosed.of_refs dwellClosed.phases dwellClosed.exceptions le_rfl (.inl rfl) (.inl rfl) fun _ => .inl rfl
  · rfl

theorem selectionRecord_eq (s : State) (r : RunRecord) :
    selectionRecord s r = r ∨ ∃ e, selectionRecord s r = r.place e := by
  unfold selectionRecord
  split
  · exact .inl rfl
  · split
    · exact .inr ⟨_, rfl⟩
    · exact .inl rfl

/-- The record at a segment's start: the dwell closed, the selection's entry, a phase entry while there is room (R40). -/
theorem startSegment_recordSound {g : Segment} {rest : List Segment} (records : s.queue.records = g :: rest)
    (sound : RecordSound s) : RecordSound (startSegment s g) := by
  obtain ⟨-, schedule, -, -, -, record⟩ := startSegment_eq s g rest records
  have ended : (dwellEnded s).ListsSound ∧ (dwellEnded s).state = .running := by
    have closed : (if s.schedule.state = .dwell then (closeDwell s).record else s.record).ListsSound := by
      split
      · exact closeDwell_listsSound sound.lists
      · exact sound.lists
    exact ⟨closed.of_refs closed.phases closed.exceptions le_rfl (.inl rfl) (.inl rfl) fun _ => .inl rfl, rfl⟩
  have selected : (selectionRecord s (dwellEnded s)).ListsSound ∧ (selectionRecord s (dwellEnded s)).state = .running := by
    obtain same | ⟨e, same⟩ := selectionRecord_eq s (dwellEnded s)
    · rw [same]; exact ended
    · rw [same]; exact ⟨ended.1.place e, (RunRecord.place_refs _ _).2.1.trans ended.2⟩
  obtain ⟨lists, runState⟩ := selected
  refine .of_active ?_ ?_ ?_
  · exact (runActive_iff _).mpr (by rw [schedule]; simp)
  · rw [record]
    split
    case h_1 => exact lists
    case h_2 =>
      split
      case isTrue room =>
        exact lists.of_refs (by simpa using room) lists.exceptions le_rfl (.inl rfl) (.inl rfl) fun _ => .inl rfl
      case isFalse =>
        exact lists.of_refs lists.phases lists.exceptions le_rfl (.inl rfl) (.inl rfl) fun _ => .inl rfl
  · rw [record, schedule]
    split
    · exact runState
    · split <;> exact runState

theorem enterDwell_recordSound (active : s.runActive = true) (sound : RecordSound s) : RecordSound (enterDwell s) := by
  refine .of_active ?_ ?_ ?_
  · exact (runActive_iff _).mpr (by simp)
  · rw [enterDwell_record active]
    have opened (kind : ExceptionKind) : (openDwell s kind).record.ListsSound := by
      rw [openDwell_of_active active]
      exact sound.lists.open _ _ refersDwell
    have opened := opened (if s.queue.records = [] then .underrunDwell else .holdDwell)
    exact opened.of_refs opened.phases opened.exceptions le_rfl (.inl rfl) (.inl rfl) fun _ => .inl rfl
  · rw [enterDwell_record active, enterDwell_schedule]
    rfl

end

theorem recordSound_runStable : RunStable RecordSound where
  quiet _ _ _ schedule _ record _ sound := sound.of_state (by rw [schedule]) record
  entry _ e sound := placeEntry_recordSound e sound
  slipOpened _ n sound := openSlip_recordSound n sound
  slipClosed _ n sound := closeSlip_recordSound n sound
  traceOpened _ sound := openTrace_recordSound sound
  traceClosed _ sound := closeTrace_recordSound sound
  abort _ cause _ sound := enterAborted_recordSound cause sound.lists
  stop _ cause _ sound := enterStopping_recordSound cause sound.lists

theorem recordSound_engineStable : EngineStable RecordSound where
  congr _ _ _ state _ record _ sound := sound.of_state state record
  start _ _ _ records _ sound := startSegment_recordSound records sound
  taken s _ _ _ _ sound := finishRun_recordSound none rfl
    (by rw [show (takeHead s).record = s.record by simp]; exact sound.lists)
  dwell _ active sound := enterDwell_recordSound active sound
  stop _ _ sound := enterStopping_recordSound _ sound.lists
  complete _ _ sound := finishRun_recordSound _ rfl sound.lists

theorem atReset_recordSound {s : State} (idle : s.schedule.state = .idle) (record : s.record = .atReset) : RecordSound s := by
  refine .of_noneOpen ?_ ?_ ?_ fun underWay => absurd idle underWay
  · simp [record, RunRecord.atReset]
  · simp [record, RunRecord.atReset]
  · rw [record]
    exact ⟨rfl, rfl, Four.get_all _⟩

theorem Request.recordSound {h : State → Served} (request : Request h) {s : State} (sound : RecordSound s) :
    RecordSound (h s).state := by
  cases request with
  | reset p =>
    obtain same | ⟨-, same⟩ := resetRequest_state_cases p s
    · rw [same]; exact sound
    · rw [same]; exact atReset_recordSound rfl rfl
  | startRun p =>
    obtain same | ⟨-, -, -, same⟩ := startRunRequest_state_cases p s
    · rw [same]; exact sound
    · rw [same]
      have none : (armRun s).record.NoneOpen := ⟨rfl, rfl, Four.get_all _⟩
      exact .of_noneOpen (by simp [armRun, RunRecord.atReset]) (by simp [armRun, RunRecord.atReset]) none fun _ => rfl
  | abortRun p =>
    obtain same | ⟨armed, same⟩ | ⟨underWay, same⟩ := abortRunRequest_state_cases p s
    · rw [same]; exact sound
    · rw [same]; exact enterAborted_recordSound _ sound.lists
    · rw [same]; exact enterStopping_recordSound _ sound.lists
  | closeRun p =>
    obtain same | ⟨finished, same⟩ := closeRunRequest_state_cases p s
    · rw [same]; exact sound
    · rw [same]
      have inactive : s.runActive = false := (inactive_iff s).mpr (.inr finished)
      have record : (setScheduleState (flushQueue s) .idle).record = s.record := by simp [ScheduleState.runState]
      refine .of_noneOpen ?_ ?_ ?_ fun underWay => absurd (by simp) underWay
      · rw [record]; exact sound.lists.phases
      · rw [record]; exact sound.lists.exceptions
      · rw [record]; exact sound.noneOpen inactive
  | setRun p =>
    obtain same | ⟨r, policy, -, inRange, same⟩ := setRunRequest_state_cases p s
    · rw [same]; exact sound
    · rw [same]; exact sound.of_state rfl rfl
  | hello n payload => exact recordSound_runStable.helloRequest n payload sound
  | poll n payload => exact recordSound_runStable.pollRequest n payload sound
  | setAxis p => exact recordSound_runStable.setAxisRequest p sound
  | reads h nothing => exact (nothing s).symm ▸ sound
  | _ => exact sound.of_state (by simp) (by simp)

theorem assertSafeStop_recordSound {s : State} (sound : RecordSound s) : RecordSound (assertSafeStop s) := by
  have latched : RecordSound { s with safety := .safeAsserted, safeStopAsserted := true } := sound.of_state rfl rfl
  unfold assertSafeStop
  dsimp only
  split
  · exact latched
  · exact recordSound_runStable.safeStopReactions latched

theorem recordSound_stable : Stable RecordSound where
  receiver _ _ _ sound := sound.of_state (by simp) (by simp)
  taken _ r _ sound :=
    have sound := sound.of_state rfl rfl
    recordSound_runStable.react r (recordSound_engineStable.scheduleReaction sound) sound
  begins _ _ _ sound := sound.of_state rfl rfl
  request _ request _ _ sound := request.recordSound sound
  broken _ n _ sound := recordSound_runStable.loseLink n sound
  asserted _ sound := assertSafeStop_recordSound sound
  deasserted _ sound := sound.of_state rfl rfl
  outputs _ _ _ _ sound := sound.of_state rfl rfl
  position _ _ _ _ sound := sound.of_state rfl rfl
  drawn _ _ sound := sound.of_state rfl rfl
  held _ sound := sound.of_state rfl rfl
  full _ _ _ := atReset_recordSound rfl rfl

/-- Settles O58: the hold set and the run record are each stable under everything a step is made of. -/
theorem holdsAndRecordStaySound : Obligations.HoldsAndRecordStaySound := fun _ _ stepped =>
  ⟨fun holds => step_keeps holdsSound_stable (fun _ _ sound => sound.of_clock rfl rfl rfl) holds stepped,
    fun record => step_keeps recordSound_stable (fun _ _ sound => sound.of_state rfl rfl) record stepped⟩

end Sys2Proof.Machine

/-!
PROOF. Commands that are messages (R13, R191, R192, R195, R200): which request a station command makes and under which kind,
and the commands as those requests taken on their ports.
-/
namespace Sys2Proof.Machine
open Sys2Proof

/-! ## The station commands -/

/-- The sender, the kind and the request of a command that is a station request. -/
def stationCommand (c : Instr) : Option (Sender × Byte × (State → Served)) :=
  match c with
  | .setClock src p => some (src, 0x01#8, setClockRequest p)
  | .clockStart src p => some (src, 0x02#8, clockStartRequest p)
  | .clockHalt src p => some (src, 0x03#8, clockHaltRequest p)
  | .reset src p => some (src, 0x08#8, resetRequest p)
  | .append src payload => some (src, 0x20#8, appendRequest payload)
  | .loadBlock src payload => some (src, 0x21#8, loadBlockRequest payload)
  | .flush src p => some (src, 0x22#8, flushRequest p)
  | .startRun src p => some (src, 0x24#8, startRunRequest p)
  | .abortRun src p => some (src, 0x25#8, abortRunRequest p)
  | .closeRun src p => some (src, 0x26#8, closeRunRequest p)
  | .setRun src p => some (src, 0x27#8, setRunRequest p)
  | .hold src p => some (src, 0x30#8, holdRequest src p)
  | .release src p => some (src, 0x31#8, releaseRequest src p)
  | .releaseHolder src p => some (src, 0x32#8, releaseHolderRequest p)
  | .setAxis src p => some (src, 0x40#8, setAxisRequest p)
  | .setSync src p => some (src, 0x41#8, setSyncRequest p)
  | .readAxis src p => some (src, 0x42#8, readAxisRequest p)
  | .couple src p => some (src, 0x44#8, coupleRequest p)
  | .setGuards src p => some (src, 0x45#8, setGuardsRequest p)
  | .setBands src p => some (src, 0x48#8, setBandsRequest p)
  | .setLoss src p => some (src, 0x49#8, setLossRequest p)
  | .loadBank src p => some (src, 0x4C#8, loadBankRequest p)
  | .selectBank src p => some (src, 0x4D#8, selectBankRequest p)
  | .setLinks src p => some (src, 0x50#8, setLinksRequest p)
  | .readFault src p => some (src, 0x54#8, readFaultRequest p)
  | .clearFault src p => some (src, 0x55#8, clearFaultRequest p)
  | .ackSafeStop src p => some (src, 0x58#8, ackSafeStopRequest p)
  | .readRecord src p => some (src, 0x5C#8, readRecordRequest p)
  | .status src p => some (src, 0x60#8, statusRequest p)
  | .snapshot src p => some (src, 0x61#8, snapshotRequest p)
  | .preview src p => some (src, 0x62#8, previewRequest p)
  | _ => none

section
variable {c : Instr} {src : Sender} {kind : Byte} {h : State → Served} {s u : State}

/-- A station command is its request, taken on its sender's port. -/
theorem exec_stationCommand (found : stationCommand c = some (src, kind, h)) (s : State) :
    exec c s = .next (takeStation src kind h s) := by
  cases c <;> cases found <;> rfl

theorem messagePort_stationCommand (found : stationCommand c = some (src, kind, h)) :
    messagePort c = some (portOf src) := by
  cases c <;> cases found <;> rfl

/-- A permitted station command on a ready port: the state its request leaves, and the request's answer. The state after the
boundary in progress is named `u`. -/
theorem exec_served {t : State} {code : Code} {body : Body} (settled : settle s = u)
    (found : stationCommand c = some (src, kind, h)) (ready : portReady u (portOf src) = true)
    (may : src = .supervisor ∨ observerMay kind = true) (served : h u = { state := t, code := code, body := body }) :
    exec c s = .next (answerStation t src kind code body) := by
  subst settled
  rw [exec_stationCommand found, takeStation_taken src kind h s ready may, served]
  rfl

/-- The supervisory computer may send every request. -/
theorem exec_supervisor {t : State} {code : Code} {body : Body} (settled : settle s = u)
    (found : stationCommand c = some (.supervisor, kind, h)) (ready : portReady u .supervisory = true)
    (served : h u = { state := t, code := code, body := body }) :
    exec c s = .next (answerStation t .supervisor kind code body) :=
  exec_served settled found ready (.inl rfl) served

end

/-! ## Every command goes on -/

/-- Nothing that a step is made of touches the queue of commands. -/
theorem pending_stable (q : List Instr) : Stable fun t => t.pending = q where
  receiver _ _ _ same := by simpa using same
  taken _ r _ same := by simpa using same
  begins _ _ _ same := same
  request _ request s _ same := by
    have keeps : ∀ h, Request h → (h s).state.pending = s.pending := by
      intro h request
      cases request with
      | reads h nothing => rw [nothing]
      | _ => simp
    exact (keeps _ request).trans same
  broken _ _ _ same := by simpa using same
  asserted _ same := by simpa using same
  deasserted _ same := same
  outputs _ _ _ _ same := same
  position _ _ _ _ same := same
  drawn _ _ same := same
  held _ same := same
  full _ _ same := same

/-- The part refuses and faults nothing: each command's own meaning is a next state. -/
theorem exec_next (c : Instr) (s : State) : ∃ t, exec c s = .next t := by
  cases c <;> exact ⟨_, rfl⟩

/-- Settles O3: every command has a next state, and the queue of commands is stable under everything a command does. -/
theorem everyCommandGoesOn : Obligations.EveryCommandGoesOn := by
  intro c s
  obtain ⟨t, next⟩ := exec_next c s
  exact ⟨t, next, exec_keeps (pending_stable s.pending) c rfl next⟩

/-- Settles O1: a step on a queue that is not empty executes its front. -/
theorem stepExecutesTheFront : Obligations.StepExecutesTheFront := fun _ _ _ => rfl

/-! ## A port that is not ready -/

theorem takeStation_notReady (src : Sender) (kind : Byte) (h : State → Served) (s : State)
    (busy : portReady (settle s) (portOf src) = false) : takeStation src kind h s = settle s :=
  takeMessage_notReady _ _ s busy

theorem takeDrive_notReady (n dest : Axis) (kind : Byte) (h : State → Served) (s : State)
    (busy : portReady (settle s) (.drive n) = false) : takeDrive n dest kind h s = settle s :=
  takeMessage_notReady _ _ s busy

/-- A command that is a message is a station request, one of the three messages that are no request, or a drive's. -/
theorem messagePort_cases {c : Instr} {p : Port} (message : messagePort c = some p) :
    (∃ src kind h, stationCommand c = some (src, kind, h) ∧ p = portOf src) ∨
    (∃ address kind, c = .unknownRequest p address kind) ∨ c = .badCheckDiscard p ∨ (∃ address, c = .addressIgnored p address) ∨
    (∃ n dest payload, c = .hello n dest payload ∧ p = .drive n) ∨ ∃ n dest payload, c = .poll n dest payload ∧ p = .drive n := by
  cases found : stationCommand c with
  | some request =>
    obtain ⟨src, kind, h⟩ := request
    have same : messagePort c = some (portOf src) := messagePort_stationCommand found
    exact .inl ⟨src, kind, h, rfl, Option.some.inj (message.symm.trans same)⟩
  | none =>
    cases c
    case unknownRequest => cases message; exact .inr (.inl ⟨_, _, rfl⟩)
    case badCheckDiscard => cases message; exact .inr (.inr (.inl rfl))
    case addressIgnored => cases message; exact .inr (.inr (.inr (.inl ⟨_, rfl⟩)))
    case hello => cases message; exact .inr (.inr (.inr (.inr (.inl ⟨_, _, _, rfl, rfl⟩))))
    case poll => cases message; exact .inr (.inr (.inr (.inr (.inr ⟨_, _, _, rfl, rfl⟩))))
    all_goals simp [stationCommand, messagePort] at found message

/-- Settles O5: each kind of message passes through `takeMessage` on its port. -/
theorem messageOnBusyPortIsDiscarded : Obligations.MessageOnBusyPortIsDiscarded := by
  intro c p s message busy
  obtain ⟨src, kind, h, found, rfl⟩ | ⟨address, kind, rfl⟩ | rfl | ⟨address, rfl⟩ | ⟨n, dest, payload, rfl, rfl⟩ |
    ⟨n, dest, payload, rfl, rfl⟩ := messagePort_cases message
  · rw [exec_stationCommand found, takeStation_notReady src kind h s busy]
  · exact congrArg Host.Outcome.next (takeMessage_notReady _ _ s busy)
  · exact congrArg Host.Outcome.next (takeMessage_notReady _ _ s busy)
  · exact congrArg Host.Outcome.next (takeMessage_notReady _ _ s busy)
  · exact congrArg Host.Outcome.next (takeDrive_notReady n dest _ _ s busy)
  · exact congrArg Host.Outcome.next (takeDrive_notReady n dest _ _ s busy)

/-! ## Refusals before a request's own rule -/

/-- A request for the supervisory computer alone is a station command of a kind no observer may send. -/
theorem supervisoryRequest_found {c : Instr} {src : Sender} {kind : Byte} (named : supervisoryRequest c = some (src, kind)) :
    ∃ h, stationCommand c = some (src, kind, h) ∧ observerMay kind = false := by
  cases c <;> cases named <;> exact ⟨_, rfl, rfl⟩

/-- A payload that does not fit is refused by the request itself. -/
theorem misfitRequest_found {c : Instr} {src : Sender} {kind : Byte} (named : misfitRequest c = some (src, kind)) (s : State) :
    ∃ h body, stationCommand c = some (src, kind, h) ∧ h s = { state := s, code := .badParam, body := body } := by
  unfold misfitRequest at named
  split at named <;> cases named <;> exact ⟨_, _, rfl, rfl⟩

/-- Settles O6: the two refusals of a station command, by its kind and by its payload. -/
theorem refusedBeforeItsRule : Obligations.RefusedBeforeItsRule := by
  intro c src kind s ready
  refine ⟨fun supervisory observer => ?notPermitted, fun misfit may => ?misfit⟩
  case notPermitted =>
    obtain ⟨h, found, mayNot⟩ := supervisoryRequest_found supervisory
    rw [exec_stationCommand found, takeStation_notPermitted src kind h s ready observer mayNot]
  case misfit =>
    obtain ⟨h, body, found, served⟩ := misfitRequest_found misfit (settle s)
    exact ⟨body, exec_served rfl found ready may served⟩

/-! ## Messages that are no request -/

section
variable {p : Port} {address kind : Byte} {s : State}

/-- The header alone is answered (R195). -/
theorem exec_unknownRequest (ready : portReady (settle s) p = true) (taken : portTakes p address = true)
    (unknown : linkCarries p kind = false) :
    exec (.unknownRequest p address kind) s = .next
      ((settle s).setReceiver p
        (.answering
          { address := answerAddress address, kind := kind, code := .unknownRequest, frame := (settle s).clock.f
            body := .header })) := by
  simp only [exec, execUnknownRequest, takeMessage_ready _ _ s ready, taken, unknown, Bool.not_false, Bool.and_true, if_true,
    serve, unknownServed, refuse, Option.getD_none]

theorem exec_badCheckDiscard (ready : portReady (settle s) p = true) : exec (.badCheckDiscard p) s = .next (settle s) := by
  simp only [exec, execBadCheckDiscard, takeMessage_ready _ _ s ready, id]

theorem exec_addressIgnored (ready : portReady (settle s) p = true) : exec (.addressIgnored p address) s = .next (settle s) := by
  simp only [exec, execAddressIgnored, takeMessage_ready _ _ s ready, id, ite_self]

end

/-- Settles O7: the three messages on a ready port, then the check word bit by bit and the layout of a header alone. -/
theorem messagesThatAreNoRequest : Obligations.MessagesThatAreNoRequest := by
  refine ⟨fun p address kind s ready => ⟨fun taken unknown => exec_unknownRequest ready taken unknown,
    exec_badCheckDiscard ready, exec_addressIgnored ready⟩, fun bytes => ?checkWord, rfl, fun a header => ?layout⟩
  case checkWord =>
    rw [crc_bits]
    congr 1
    funext r bit
    exact crcBit_eq r bit
  case layout => exact a.bytes_eq [] (by rw [header]; rfl)

end Sys2Proof.Machine

/-!
PROOF. The Frame Clock's requests and line timing (R4 to R11), a count of the time base (R2), and the resets (R13, R199).
-/
namespace Sys2Proof.Machine
open Sys2Proof

/-! ## The clock's requests -/

theorem Lines.some_eq_false_iff (l : Lines) : l.some = false ↔ l = ⟨false, false, false, false⟩ := by
  rcases l with ⟨a, b, c, d⟩
  simp [Lines.some, and_assoc]

/-- A halt discards the frame position and keeps active lines for the rest of the frame, unless their hold runs already. -/
theorem haltClock_eq (s : State) (rest : Nat) :
    haltClock s rest =
      { s with
        clock :=
          { s.clock with
            state := .halted, position := none
            lineHold :=
              if s.clock.lines = ⟨false, false, false, false⟩ then none else some (s.clock.lineHold.getD rest) } } := by
  unfold haltClock
  by_cases dark : s.clock.lines = ⟨false, false, false, false⟩
  · simp [dark, (Lines.some_eq_false_iff _).mpr rfl]
  · have lit : s.clock.lines.some = true := by simpa using mt (Lines.some_eq_false_iff _).mp dark
    cases hold : s.clock.lineHold <;> simp [dark, lit]

/-- Settles O8: each request by the checks that decide it. -/
theorem clockRequests : Obligations.ClockRequests := by
  intro s n
  generalize settled : settle s = w
  intro ready u
  refine ⟨?set, ?start, ?halt⟩
  case set =>
    split
    case isTrue running =>
      exact exec_supervisor settled rfl ready (by rw [setClockRequest, if_pos running]; rfl)
    case isFalse halted =>
      split
      case isTrue range => exact exec_supervisor settled rfl ready (by rw [setClockRequest, if_neg halted, if_pos range]; rfl)
      case isFalse range => exact exec_supervisor settled rfl ready (by rw [setClockRequest, if_neg halted, if_neg range]; rfl)
  case start =>
    split
    case isTrue may => exact exec_supervisor settled rfl ready (by unfold clockStartRequest Config.frameLimit; rw [if_pos may]; rfl)
    case isFalse may => exact exec_supervisor settled rfl ready (by unfold clockStartRequest Config.frameLimit; rw [if_neg may]; rfl)
  case halt =>
    split
    case isTrue active =>
      exact exec_supervisor settled rfl ready (by rw [clockHaltRequest, if_pos ((runActive_iff _).mpr active)]; rfl)
    case isFalse inactive =>
      have inactive := mt (runActive_iff u).mp inactive
      split
      case isTrue running =>
        exact exec_supervisor settled rfl ready (by rw [clockHaltRequest, if_neg inactive, if_pos running, haltClock_eq]; rfl)
      case isFalse halted =>
        exact exec_supervisor settled rfl ready (by rw [clockHaltRequest, if_neg inactive, if_neg halted]; rfl)

/-- Settles O9: both commands are one write of the clock. -/
theorem lineTimingResult : Obligations.LineTimingResult := fun _ => ⟨rfl, rfl⟩

/-! ## A count of the time base -/

/-- The state with FRAME MARK inactive. -/
def State.pulseOver (s : State) : State := { s with clock := { s.clock with frameMark := false } }

/-- Out of reset, with nothing owed and no lines held, a count of the time base ends the pulse and looks at the clock. -/
theorem tick_eq {s : State} (free : s.heldInReset = false) (settled : s.boundary.owed = []) (dark : s.clock.lineHold = none) :
    tick s =
      match s.clock.state with
      | .halted => s.pulseOver
      | .running =>
        let p := s.clock.position.getD 0
        if p < s.clock.n then s.pulseOver.withClock { s.pulseOver.clock with position := some (p + 1) }
        else boundaryStep (Config.boundaryOrder s.drawn) [] { s.pulseOver with drawn := s.drawn + 1 } := by
  have hold : countLineHold s.pulseOver = s.pulseOver := by simp [countLineHold, State.pulseOver, dark]
  unfold tick
  rw [if_neg (by simp [free]), settle_of_owed_nil s settled]
  dsimp only
  rw [show { s with clock := { s.clock with frameMark := false } } = s.pulseOver from rfl, hold]
  rfl

theorem scheduleReaction_clock_f (s : State) : (scheduleReaction s).clock.f = s.clock.f := by
  obtain ⟨lines, clock⟩ := scheduleReaction_clock s
  rw [clock]

/-- No reaction to a boundary changes F, which the boundary itself advances. -/
theorem react_clock_f (r : Reaction) (s : State) : (react r s).clock.f = s.clock.f := by
  cases r with
  | schedule => exact scheduleReaction_clock_f s
  | limit => exact limitReaction_clock_f s
  | _ => simp [react]

theorem takeOwed_clock_f (s : State) (r : Reaction) : (takeOwed s r).clock.f = s.clock.f := by
  unfold takeOwed
  split
  · exact react_clock_f r _
  · rfl

theorem takeReaction_clock_f (s : State) (r : Reaction) : (takeReaction s r).clock.f = s.clock.f := by
  unfold takeReaction
  split
  · rw [takeOwed_clock_f, takeOwed_clock_f]
  · exact foldl_keeps (fun t => t.clock.f) takeOwed takeOwed_clock_f reactions s
  · exact takeOwed_clock_f s r

theorem boundaryStep_clock_f {s : State} (order left : List Reaction) (settled : s.boundary.owed = [])
    (occurs : boundaryOccurs s = true) : (boundaryStep order left s).clock.f = s.clock.f + 1 := by
  unfold boundaryStep
  rw [settle_of_owed_nil s settled]
  dsimp only
  rw [if_pos occurs]
  exact foldl_keeps (fun t => t.clock.f) takeReaction takeReaction_clock_f _ _

/-- Settles O2: the count of the time base, by the clock's state and its frame position. -/
theorem emptyQueueCountsTime : Obligations.EmptyQueueCountsTime := by
  intro s empty settled dark free
  have step_eq : step s = .next (tick s) := by simp [step, empty]
  rw [step_eq, tick_eq free settled dark]
  refine ⟨fun halted => ?halted, fun p running position short => ?short, fun p running position full limit => ?full⟩
  case halted => rw [halted]; rfl
  case short =>
    rw [running]
    simp only [position, Option.getD_some, if_pos short]
    rfl
  case full =>
    have past : ¬ p < s.clock.n := by omega
    simp only [running, position, Option.getD_some, if_neg past]
    exact ⟨_, rfl, boundaryStep_clock_f _ _ settled ((boundaryOccurs_iff _).mpr ⟨running, free, limit⟩)⟩

/-! ## The resets -/

/-- Settles O10: RESET changes nothing out of IDLE, and in IDLE takes every block to its soft-reset values. -/
theorem softResetResult : Obligations.SoftResetResult := by
  intro s
  generalize settled : settle s = w
  intro ready u
  refine ⟨fun active => ?refused, fun idle => ?accepted⟩
  case refused => exact exec_supervisor settled rfl ready (by rw [resetRequest, if_neg active]; rfl)
  case accepted =>
    refine ⟨softReset u, exec_supervisor settled rfl ready (by rw [resetRequest, if_pos idle]; rfl), rfl, rfl, rfl, rfl, ?_, ?_, ?_,
      ?_, rfl, rfl, rfl, ?_, ?_, rfl, rfl, rfl, rfl⟩
    · intro who
      cases who <;> rfl
    · exact fun n => softReset_hold u n
    · exact fun n => softReset_axis u n
    · exact fun n => softReset_slot u n
    · exact fun n => Four.get_map _ _ _
    · exact fun n => softReset_latch u n

/-- Settles O11: the three commands as the model defines them. -/
theorem resetLineResult : Obligations.ResetLineResult := by
  intro s asserted
  refine ⟨?asserted, rfl, rfl⟩
  case asserted =>
    have held : exec .resetLineAssert s = .next (holdInReset (settle s)) := rfl
    rw [held]
    generalize settle s = u
    rfl

theorem atReset_hold (asserted : Bool) (who : Holder) : (State.atReset asserted).holds.get who = none := by
  cases who with
  | external src => cases src <;> rfl
  | axis n => exact Four.get_all _ _

theorem atReset_receiver (asserted : Bool) (p : Port) : (State.atReset asserted).receiver p = .idle := by
  cases p with
  | drive n => exact Four.get_all _ _
  | _ => rfl

/-- Settles O12: the values after a full reset, block by block. -/
theorem fullResetValues : Obligations.FullResetValues := by
  intro asserted r
  have each {α : Type} (x : α) (n : Axis) : (Four.all x).get n = x := Four.get_all _ _
  exact ⟨⟨rfl, rfl, rfl, rfl, rfl, rfl⟩, ⟨rfl, rfl, rfl, rfl, rfl, rfl⟩,
    ⟨rfl, rfl, rfl, rfl, rfl, rfl, rfl, rfl, rfl, rfl, rfl, rfl, rfl⟩, atReset_hold asserted, each _, rfl, each _, rfl, rfl,
    rfl, each _, fun n k => (congrArg (fun row : Four LossEntry => row.get k) (each _ n)).trans (each _ k), rfl, each _, rfl,
    each _, rfl, rfl, rfl, ⟨rfl, rfl, rfl⟩, atReset_receiver asserted⟩

end Sys2Proof.Machine

/-!
PROOF. The requests of the Segment Queue and the Schedule Engine (R20 to R53): blocks and flushes, the start, the stop, the
end and the settings of a run.
-/
namespace Sys2Proof.Machine
open Sys2Proof

/-! ## The queue's requests -/

section
variable {s : State}

/-- The tail speed is the last pending record's (R20). -/
theorem tailSpeed_of_last {before : List Segment} {last : Segment} (records : s.queue.records = before ++ [last]) :
    tailSpeed s = last.endSpeed := by
  simp [tailSpeed, records]

theorem tailSpeed_of_empty (empty : s.queue.records = []) :
    tailSpeed s =
      match s.schedule.state, s.schedule.active with
      | .running, some a => a.record.endSpeed
      | _, _ => s.schedule.virtualSpeed := by
  unfold tailSpeed
  rw [empty]
  rfl

theorem tailSpeed_of_active {a : ActiveSegment} (empty : s.queue.records = []) (running : s.schedule.state = .running)
    (active : s.schedule.active = some a) : tailSpeed s = a.record.endSpeed := by
  simp only [tailSpeed_of_empty empty, running, active]

theorem tailSpeed_of_noActive (empty : s.queue.records = [])
    (noActive : s.schedule.state ≠ .running ∨ s.schedule.active = none) : tailSpeed s = s.schedule.virtualSpeed := by
  rw [tailSpeed_of_empty empty]
  split
  case h_1 running active =>
    rcases noActive with notRunning | none
    · exact absurd running notRunning
    · simp [none] at active
  case h_2 => rfl

theorem takesRecords_iff (x : ScheduleState) :
    takesRecords x = true ↔ x = .idle ∨ x = .armed ∨ x = .running ∨ x = .dwell := by
  cases x <;> simp [takesRecords]

end

/-! A block by the check that decides it (R23 to R25). -/

section
variable {u : State} {walked : Option (List RawRecord)} {rs : List RawRecord}

theorem blockRequest_of_notTaken
    (notTaken : ¬ (u.schedule.state = .idle ∨ u.schedule.state = .armed ∨ u.schedule.state = .running ∨
      u.schedule.state = .dwell)) : blockRequest walked u = queueServed u .refusedState 0 := by
  rw [← takesRecords_iff, Bool.not_eq_true] at notTaken
  unfold blockRequest
  rw [if_pos notTaken]

variable (taken : takesRecords u.schedule.state = true)
include taken

theorem blockRequest_of_closed (closed : u.queue.closed = true) : blockRequest walked u = queueServed u .queueClosed 0 := by
  simp [blockRequest, taken, closed]

variable (opened : u.queue.closed = false)
include opened

theorem blockRequest_of_misfit : blockRequest none u = queueServed u .badParam 0 := by
  simp [blockRequest, taken, opened]

theorem blockRequest_of_full (full : 64 - u.queue.records.length < rs.length) :
    blockRequest (some rs) u = queueServed u .full 0 := by
  simp [blockRequest, taken, opened, Config.queueCapacity, full]

variable (room : ¬ 64 - u.queue.records.length < rs.length)
include room

theorem blockRequest_of_failure {code : Code} {position : Nat}
    (failure : checkRecords { expected := u.queue.expected, tail := tailSpeed u, closed := false } 1 rs =
      .error (code, position)) : blockRequest (some rs) u = queueServed u code position := by
  simp only [blockRequest, taken, opened, Config.queueCapacity, if_neg room, failure]
  rfl

theorem blockRequest_of_passed {segments : List Segment} {last : Trial}
    (passed : checkRecords { expected := u.queue.expected, tail := tailSpeed u, closed := false } 1 rs =
      .ok (segments, last)) : blockRequest (some rs) u = queueServed (acceptBlock u segments last) .ok 0 := by
  simp only [blockRequest, taken, opened, Config.queueCapacity, if_neg room, passed]
  rfl

end

/-- An accepted block joins the tail of a queue that is not closed (R25). -/
theorem acceptBlock_of_opened {u : State} (opened : u.queue.closed = false) (segments : List Segment) (last : Trial) :
    acceptBlock u segments last =
      { u with
        queue :=
          { u.queue with
            records := u.queue.records ++ segments, expected := last.expected, closed := last.closed
            low := decide ((u.queue.records ++ segments).length ≤ u.queue.lowWaterMark) } } := by
  rw [acceptBlock, opened]
  rfl

/-- Settles O13: the tail speed by its three sources; a block by the check that decides it. -/
theorem blockResult : Obligations.BlockResult := by
  refine ⟨fun t => ⟨fun before last records => tailSpeed_of_last records,
    fun a empty running active => tailSpeed_of_active empty running active,
    fun empty noActive => tailSpeed_of_noActive empty noActive⟩, ?_⟩
  intro s payload
  generalize settled : settle s = w
  intro ready u report outcome
  have answers {c : Instr} {kind : Byte} {walked : Option (List RawRecord)}
      (found : stationCommand c = some (.supervisor, kind, blockRequest walked)) :
      exec c s = .next (outcome kind walked) := by
    simp only [outcome]
    split
    case isTrue notTaken => exact exec_supervisor settled found ready (blockRequest_of_notTaken notTaken)
    case isFalse taken =>
      have taken : takesRecords w.schedule.state = true := (takesRecords_iff _).mpr (not_not.mp taken)
      split
      case isTrue closed => exact exec_supervisor settled found ready (blockRequest_of_closed taken closed)
      case isFalse opened =>
        have opened : w.queue.closed = false := by simpa using opened
        split
        case h_1 => exact exec_supervisor settled found ready (blockRequest_of_misfit taken opened)
        case h_2 rs =>
          split
          case isTrue full => exact exec_supervisor settled found ready (blockRequest_of_full taken opened full)
          case isFalse room =>
            split
            case h_1 code position failure =>
              exact exec_supervisor settled found ready (blockRequest_of_failure taken opened room failure)
            case h_2 segments last passed =>
              refine exec_supervisor settled found ready ?_
              rw [blockRequest_of_passed taken opened room passed, acceptBlock_of_opened opened]
              rfl
  exact ⟨answers rfl, answers rfl⟩

/-- Settles O15: the flush, and the tail speed of an empty queue. -/
theorem flushResult : Obligations.FlushResult := by
  intro s
  generalize settled : settle s = w
  intro ready u t
  refine exec_supervisor settled rfl ready ?_
  have tail : tailSpeed (flushQueue w) =
      match w.schedule.state, w.schedule.active with
      | .running, some a => a.record.endSpeed
      | _, _ => w.schedule.virtualSpeed := tailSpeed_of_empty (s := flushQueue w) rfl
  simp only [flushRequest, queueReport, tail]
  rfl

/-! ## The run's requests -/

theorem someRoad_iff (s : State) : someRoad s = true ↔ ∃ n : Axis, (s.axis n).mode = .road := by
  simp [someRoad, Sys2Proof.axes, Fin.exists_fin_succ]

theorem activeBank_eq_none_iff (r : RoadLoad) :
    activeBank r = none ↔ r.bankA.activeCoefficients = none ∧ r.bankB.activeCoefficients = none := by
  unfold activeBank
  cases r.bankA.activeCoefficients <;> cases r.bankB.activeCoefficients <;> simp

/-- Settles O16: the four checks in their order. -/
theorem startRunResult : Obligations.StartRunResult := by
  intro s
  generalize settled : settle s = w
  intro ready u refused
  have noBank : (someRoad w = true ∧ activeBank w.road = none) ↔
      (∃ n : Axis, (w.axis n).mode = .road) ∧ w.road.bankA.activeCoefficients = none ∧
        w.road.bankB.activeCoefficients = none := by
    rw [someRoad_iff, activeBank_eq_none_iff]
  have served {t : State} {code : Code} {body : Body}
      (outcome : startRunRequest (.fits ()) w = { state := t, code := code, body := body }) :=
    exec_supervisor (c := .startRun .supervisor (.fits ())) settled rfl ready outcome
  split
  case isTrue active => exact served (by rw [startRunRequest, if_pos active]; rfl)
  case isFalse idle =>
    split
    case isTrue halted => exact served (by rw [startRunRequest, if_neg idle, if_pos halted]; rfl)
    case isFalse running =>
      split
      case isTrue latched => exact served (by rw [startRunRequest, if_neg idle, if_neg running, if_pos latched]; rfl)
      case isFalse normal =>
        split
        case isTrue without =>
          exact served (by
            rw [startRunRequest, if_neg idle, if_neg running, if_neg normal, if_pos (noBank.mpr without)]; rfl)
        case isFalse supplied =>
          exact served (by
            rw [startRunRequest, if_neg idle, if_neg running, if_neg normal, if_neg (mt noBank.mp supplied)]; rfl)

/-- The end of a run, field by field. -/
theorem finishRun_eq (s : State) (final : ScheduleState) (cause : Option StopCause) :
    finishRun s final cause =
      { s with
        schedule := { s.schedule with state := final, active := none, virtualSpeed := 0, dwellCount := 0, stopCause := cause }
        road := { s.road with pendingSelection := none }
        record := { (closeEpisodes s).record with state := final.runState s.record.state } } := by
  unfold finishRun
  rw [closeEpisodes_eq, closeEpisodes_eq]
  rfl

theorem placeRunStop_eq (s : State) (cause : StopCause) :
    placeRunStop s cause =
      placeEntry s
        { kind := .runStop, opened := s.schedule.runFrame, closed := none, axis := none, holder := none
          cause := some (.stop cause) } := rfl

/-- Settles O17: `finishRun` field by field, and the stop's entry, whose run frame no closing changes. -/
theorem runEndings : Obligations.RunEndings := by
  intro s cause stopEntry ended
  refine ⟨finishRun_eq s _ _, ?aborted, finishRun_eq s _ _, ?stopping⟩
  case aborted =>
    rw [enterAborted, placeRunStop_eq, finishRun_eq]
    rfl
  case stopping =>
    intro w
    have schedule : w.schedule = s.schedule := by
      simp only [w]
      split <;> simp
    have frame : w.schedule.runFrame = s.schedule.runFrame := by rw [schedule]
    simp only [stopEntry, ← frame]
    rfl

/-- Settles O18: ABORT RUN and CLOSE RUN by the schedule's state. -/
theorem abortAndCloseRun : Obligations.AbortAndCloseRun := by
  intro s
  generalize settled : settle s = w
  intro ready u
  refine ⟨?abort, ?close⟩
  case abort =>
    have served {t : State} {code : Code} {body : Body}
        (outcome : abortRunRequest (.fits ()) w = { state := t, code := code, body := body }) :=
      exec_supervisor (c := .abortRun .supervisor (.fits ())) settled rfl ready outcome
    have aborted : scheduleServed (enterAborted w .abortRequest) .ok =
        { state := enterAborted w .abortRequest, code := .ok, body := .schedule .aborted } := by simp [scheduleServed]
    have stopping : scheduleServed (enterStopping w .abortRequest) .ok =
        { state := enterStopping w .abortRequest, code := .ok, body := .schedule .stopping } := by simp [scheduleServed]
    split
    case isTrue armed => exact served (by rw [abortRunRequest, armed]; exact aborted)
    case isFalse notArmed =>
      split
      case isTrue underWay =>
        rcases underWay with running | dwell
        · exact served (by rw [abortRunRequest, running]; exact stopping)
        · exact served (by rw [abortRunRequest, dwell]; exact stopping)
      case isFalse notUnderWay =>
        refine served ?_
        dsimp only [abortRunRequest]
        split
        case h_1 armed => exact absurd armed notArmed
        case h_2 running => exact absurd (.inl running) notUnderWay
        case h_3 dwell => exact absurd (.inr dwell) notUnderWay
        all_goals rfl
  case close =>
    have served {t : State} {code : Code} {body : Body}
        (outcome : closeRunRequest (.fits ()) w = { state := t, code := code, body := body }) :=
      exec_supervisor (c := .closeRun .supervisor (.fits ())) settled rfl ready outcome
    split
    case isTrue finished =>
      rcases finished with ended | aborted
      · exact served (by rw [closeRunRequest, ended]; rfl)
      · exact served (by rw [closeRunRequest, aborted]; rfl)
    case isFalse notFinished =>
      refine served ?_
      dsimp only [closeRunRequest]
      split
      case h_1 ended => exact absurd (.inl ended) notFinished
      case h_2 aborted => exact absurd (.inr aborted) notFinished
      all_goals rfl

/-- Settles O19: the run's activity, the policy, then the five ranges. -/
theorem setRunResult : Obligations.SetRunResult := by
  intro s r
  generalize settled : settle s = w
  intro ready u settings
  have served {t : State} {code : Code} {body : Body}
      (outcome : setRunRequest (.fits r) w = { state := t, code := code, body := body }) :=
    exec_supervisor (c := .setRun .supervisor (.fits r)) settled rfl ready outcome
  split
  case isTrue active => exact served (by rw [setRunRequest, if_pos ((runActive_iff w).mpr active)]; rfl)
  case isFalse inactive =>
    have inactive := mt (runActive_iff w).mp inactive
    split
    case h_1 none => exact served (by rw [setRunRequest, if_neg inactive, none]; rfl)
    case h_2 policy some =>
      split
      case isTrue inRange =>
        exact served (by
          rw [setRunRequest, if_neg inactive, some]
          exact if_pos (show RunFieldsInRange r from inRange))
      case isFalse outOfRange =>
        exact served (by
          rw [setRunRequest, if_neg inactive, some]
          exact if_neg (show ¬ RunFieldsInRange r from outOfRange))

end Sys2Proof.Machine

/-!
PROOF. The Hold Set's requests and the gate (R38, R61 to R66), the settings (R79, R102, R158), and the reads (R90, R187, R196 to
R198).
-/
namespace Sys2Proof.Machine
open Sys2Proof

/-! ## The gate -/

/-- An entry counts unless its expiry frame is at or before F (R38). -/
theorem counts_iff (e : HoldEntry) (f : Nat) : e.counts f = true ↔ ∀ x ∈ e.expiry, f < x := by
  unfold HoldEntry.counts
  cases e.expiry <;> simp

theorem someCounting_iff (s : State) (scope : Scope) :
    someCounting s scope = true ↔
      ∃ who e, s.holds.get who = some e ∧ (∀ x ∈ e.expiry, s.clock.f < x) ∧ e.scope = scope := by
  unfold someCounting
  rw [List.any_eq_true]
  constructor
  · rintro ⟨who, -, counting⟩
    split at counting
    case h_1 e present =>
      obtain ⟨counts, hasScope⟩ := Bool.and_eq_true_iff.mp counting
      exact ⟨who, e, present, (counts_iff e _).mp counts, of_decide_eq_true hasScope⟩
    case h_2 => simp at counting
  · rintro ⟨who, e, present, counts, hasScope⟩
    exact ⟨who, mem_holders who, by simp [present, (counts_iff e _).mpr counts, hasScope]⟩

theorem someCounting_eq_false_iff (s : State) (scope : Scope) :
    someCounting s scope = false ↔
      ∀ who e, s.holds.get who = some e → (∀ x ∈ e.expiry, s.clock.f < x) → e.scope ≠ scope := by
  rw [← Bool.not_eq_true, someCounting_iff]
  push Not
  rfl

/-- The gate at a head. -/
theorem gateOpen_iff_of_head {s : State} {head : Segment} {rest : List Segment} (records : s.queue.records = head :: rest) :
    gateOpen s = true ↔
      someCounting s .any = false ∧ (head.phase.isSome = true → someCounting s .phase = false) := by
  unfold gateOpen
  rw [records]
  cases phase : head.phase <;> simp [phase]

/-- Settles O21: the head's own gate, its two scopes read as statements about every entry. -/
theorem gateRule : Obligations.GateRule := by
  intro s
  have scopes (head : Segment) :
      someCounting s .any = false ∧ (head.phase.isSome = true → someCounting s .phase = false) ↔
        ∀ who e, s.holds.get who = some e → (∀ x ∈ e.expiry, s.clock.f < x) →
          e.scope ≠ .any ∧ (head.phase.isSome = true → e.scope ≠ .phase) := by
    rw [someCounting_eq_false_iff, someCounting_eq_false_iff]
    exact ⟨fun ⟨any, phase⟩ who e present counts => ⟨any who e present counts, fun marked => phase marked who e present counts⟩,
      fun none => ⟨fun who e present counts => (none who e present counts).1,
        fun marked who e present counts => (none who e present counts).2 marked⟩⟩
  constructor
  · intro isOpen
    obtain ⟨head, rest, records⟩ := gateOpen_head isOpen
    exact ⟨head, rest, records, (scopes head).mp ((gateOpen_iff_of_head records).mp isOpen)⟩
  · rintro ⟨head, rest, records, none⟩
    exact (gateOpen_iff_of_head records).mpr ((scopes head).mpr none)

/-! ## HOLD, RELEASE and RELEASE HOLDER -/

section
variable {s u : State} {src : Sender} (settled : settle s = u) (ready : portReady u (portOf src) = true)
include settled ready

theorem exec_hold {h : HoldFields} {t : State} {code : Code} {body : Body}
    (served : holdRequest src (.fits h) u = { state := t, code := code, body := body }) :
    exec (.hold src (.fits h)) s = .next (answerStation t src 0x30#8 code body) :=
  exec_served settled rfl ready (.inr rfl) served

theorem exec_release {t : State} {code : Code} {body : Body}
    (served : removeExternal u src = { state := t, code := code, body := body }) :
    exec (.release src (.fits ())) s = .next (answerStation t src 0x31#8 code body) :=
  exec_served settled rfl ready (.inr rfl) served

end

section
variable {u : State} {src : Sender} {h : HoldFields}

theorem holdRequest_of_noScope (scope : h.scope = none) : holdRequest src (.fits h) u = heldServed u src .badParam := by
  simp only [holdRequest, scope]

theorem holdRequest_of_badDuration {scope : Scope} (hasScope : h.scope = some scope)
    (bad : ∃ d ∈ h.duration, ¬ (1 ≤ d ∧ d ≤ 60000)) : holdRequest src (.fits h) u = heldServed u src .badRange := by
  simp only [holdRequest, hasScope]
  exact if_pos bad

theorem holdRequest_of_accepted {scope : Scope} (hasScope : h.scope = some scope) (good : ∀ d ∈ h.duration, 1 ≤ d ∧ d ≤ 60000) :
    holdRequest src (.fits h) u =
      heldServed
        (u.setHold (.external src)
          (some
            { scope := scope, reason := h.reason, placed := u.clock.f, expiry := h.duration.map fun d => u.clock.f + d }))
        src .ok := by
  simp only [holdRequest, hasScope]
  refine if_neg ?_
  rintro ⟨d, given, bad⟩
  exact bad (good d given)

theorem removeExternal_of_present (present : (u.holds.get (.external src)).isSome = true) :
    removeExternal u src = removedServed (u.setHold (.external src) none) .ok 1 := if_pos present

theorem removeExternal_of_absent (absent : u.holds.get (.external src) = none) :
    removeExternal u src = removedServed u .noHold 0 := if_neg (by simp [absent])

/-- An AXISn entry is never removed by request (R66). -/
theorem releaseHolderRequest_axis (u : State) (n : Axis) :
    releaseHolderRequest (.fits (.one (.axis n))) u =
      removedServed u (if (u.holds.get (.axis n)).isSome then .conditionPresent else .noHold) 0 := rfl

/-- A write of one entry and nothing else. -/
theorem setHold_get (u : State) (who other : Holder) (e : Option HoldEntry) :
    (u.setHold who e).holds.get other = if other = who then e else u.holds.get other := by
  rw [State.setHold_holds, HoldSet.get_put]

theorem externalCount_eq (u : State) :
    externalCount u =
      [Sender.supervisor, .sampler, .driverAid].countP fun x => (u.holds.get (.external x)).isSome := by
  unfold externalCount HoldSet.get
  cases u.holds.supervisor <;> cases u.holds.sampler <;> cases u.holds.driverAid <;> rfl

end

/-- Settles O20: each request by the entry it names. -/
theorem holdRequests : Obligations.HoldRequests := by
  intro s src h target
  generalize settled : settle s = w
  intro ready u shown own
  refine ⟨⟨fun scope => ?noScope, fun d hasScope duration bad => ?badDuration, fun scope hasScope good => ?placed⟩,
    ⟨fun absent => ?absent, fun present => ?released⟩, fun supervisor => ?releaseHolder⟩
  case noScope => exact exec_hold settled ready (holdRequest_of_noScope scope)
  case badDuration =>
    obtain ⟨scope, hasScope⟩ := Option.isSome_iff_exists.mp hasScope
    exact exec_hold settled ready (holdRequest_of_badDuration hasScope ⟨d, duration, by omega⟩)
  case placed =>
    intro e
    refine ⟨w.setHold (.external src) (some e), exec_hold settled ready ?_, rfl, fun who => setHold_get w _ who _⟩
    rw [holdRequest_of_accepted hasScope good, heldServed, setHold_get, if_pos rfl]
    rfl
  case absent => exact exec_release settled ready (removeExternal_of_absent absent)
  case released =>
    exact ⟨w.setHold (.external src) none, exec_release settled ready (removeExternal_of_present present), rfl,
      fun who => setHold_get w _ who _⟩
  case releaseHolder =>
    subst supervisor
    intro answered
    have served {t : State} {code : Code} {count : Nat}
        (outcome : releaseHolderRequest (.fits target) w = removedServed t code count) : answered t code count :=
      exec_supervisor settled rfl ready outcome
    refine ⟨fun unnamed => ?unnamed, fun who one absent => ?noHold, fun n one present => ?axis, fun x one present => ?one,
      fun all => ?all⟩
    case unnamed => exact served (by rw [unnamed]; rfl)
    case noHold =>
      cases who with
      | external x => exact served (by rw [one]; exact removeExternal_of_absent absent)
      | axis n => exact served (by rw [one, releaseHolderRequest_axis, if_neg (by simpa using absent)])
    case axis => exact served (by rw [one, releaseHolderRequest_axis, if_pos present])
    case one =>
      exact ⟨w.setHold (.external x) none, served (by rw [one]; exact removeExternal_of_present present), rfl,
        fun who => setHold_get w _ who _⟩
    case all =>
      refine ⟨clearExternal w, ?_, rfl, fun x => by cases x <;> rfl, fun n => rfl⟩
      exact served (by rw [all, ← externalCount_eq]; rfl)

/-! ## The settings of all axes -/

/-- Settles O23: each of the three by the run's activity and its own ranges. -/
theorem sharedSettingsResult : Obligations.SharedSettingsResult := by
  intro s c g l
  generalize settled : settle s = w
  intro ready u active
  have running : active → w.runActive = true := (runActive_iff w).mpr
  have idle : ¬ active → ¬ w.runActive = true := mt (runActive_iff w).mp
  refine ⟨?sync, ?guards, ?links⟩
  case sync =>
    intro good answered
    refine ⟨fun run => ?_, fun rest bad => ?_, fun rest fits => ?_⟩
    · exact exec_supervisor settled rfl ready (if_pos (running run))
    · exact exec_supervisor settled rfl ready ((if_neg (idle rest)).trans (if_neg bad))
    · exact exec_supervisor settled rfl ready ((if_neg (idle rest)).trans (if_pos fits))
  case guards =>
    intro good answered
    refine ⟨fun run => ?_, fun rest bad => ?_, fun rest fits => ?_⟩
    · exact exec_supervisor settled rfl ready (if_pos (running run))
    · exact exec_supervisor settled rfl ready ((if_neg (idle rest)).trans (if_neg bad))
    · exact exec_supervisor settled rfl ready ((if_neg (idle rest)).trans (if_pos fits))
  case links =>
    intro good answered
    refine ⟨fun run => ?_, fun rest bad => ?_, fun rest fits => ?_⟩
    · exact exec_supervisor settled rfl ready (if_pos (running run))
    · exact exec_supervisor settled rfl ready ((if_neg (idle rest)).trans (if_neg bad))
    · exact exec_supervisor settled rfl ready ((if_neg (idle rest)).trans (if_pos fits))

/-! ## The reads -/

section
variable (u : State)

theorem readRecordRequest_phase {i : Nat} (stands : i < 16) :
    readRecordRequest (.fits (.phase (some (i + 1)))) u =
      recordServed u .ok
        (match u.record.phases[i]? with
          | some e => .phase e
          | none => .absent) := if_pos ⟨by omega, by omega⟩

theorem readRecordRequest_exception {i : Nat} (stands : i < 32) :
    readRecordRequest (.fits (.exception (some (i + 1)))) u =
      recordServed u .ok
        (match u.record.exceptions[i]? with
          | some e => .exception e
          | none => .absent) := if_pos ⟨by omega, by omega⟩

end

/-- Settles O43: every read answers its report of the state and leaves the state. -/
theorem readsResult : Obligations.ReadsResult := by
  intro s src
  generalize settled : settle s = w
  intro ready u answered
  have served {c : Instr} {kind : Byte} {h : State → Served} {code : Code} {body : Body}
      (found : stationCommand c = some (src, kind, h)) (may : src = .supervisor ∨ observerMay kind = true)
      (outcome : h w = { state := w, code := code, body := body }) : answered c kind code body :=
    exec_served settled found ready may outcome
  refine ⟨fun supervisor => ⟨fun i large => ?noAxis, fun n => ?axis⟩, ?record, ?status, ?snapshot, ?preview⟩
  case noAxis => exact served rfl (.inl supervisor) (by rw [readAxisRequest, axisOf_of_le i large]; rfl)
  case axis => exact served rfl (.inl supervisor) (by rw [readAxisRequest, axisOf_val]; rfl)
  case record =>
    intro summary read
    refine ⟨served rfl (.inr rfl) rfl, served rfl (.inr rfl) rfl, served rfl (.inr rfl) rfl, served rfl (.inr rfl) rfl,
      fun i out => ?_, fun i out => ?_, fun i stands => ?_, fun i stands => ?_⟩
    · exact served rfl (.inr rfl) (if_neg (by omega))
    · exact served rfl (.inr rfl) (if_neg (by omega))
    · exact served rfl (.inr rfl) (readRecordRequest_phase w stands)
    · exact served rfl (.inr rfl) (readRecordRequest_exception w stands)
  case status => exact served rfl (.inr rfl) rfl
  case snapshot => exact served rfl (.inr rfl) rfl
  case preview => exact served rfl (.inr rfl) rfl

end Sys2Proof.Machine

/-!
PROOF. The Loss Compensation Unit's band after a temperature and its requests (R117 to R124), and the banks' requests (R129 to
R133).
-/
namespace Sys2Proof.Machine
open Sys2Proof

/-! ## The band after a temperature (R120, R121) -/

theorem val_bandAbove {k : Axis} (room : k.val < 3) : (bandAbove k).val = k.val + 1 := by
  fin_cases k <;> simp_all [bandAbove]

theorem val_bandBelow (k : Axis) : (bandBelow k).val = k.val - 1 := by
  fin_cases k <;> rfl

theorem val_max_min (low k high : Axis) : (max low (min k high)).val = max low.val (min k.val high.val) := by
  rw [Fin.coe_max, Fin.coe_min]

/-- Where a band rises below `low` and falls above `high`, the two tests settle it at the nearest band between the two, in as
many rounds as there are bands to cross. -/
theorem settleBand_eq {c : BandSettings} {t : Int} {low high : Axis} (order : low ≤ high)
    (rising : ∀ k, rises c t k = true ↔ k < low) (falling : ∀ k, falls c t k = true ↔ high < k) (rounds : Nat) (k : Axis)
    (enough : (low.val - k.val) + (k.val - high.val) ≤ rounds) :
    settleBand c t rounds k = max low (min k high) := by
  have order := Fin.le_def.mp order
  have low_lt := low.isLt
  induction rounds generalizing k with
  | zero => exact Fin.ext (by rw [val_max_min, settleBand]; omega)
  | succ r ih =>
    unfold settleBand
    split
    case isTrue rise =>
      have below := Fin.lt_def.mp ((rising k).mp rise)
      have above := val_bandAbove (k := k) (by omega)
      exact Fin.ext (by rw [ih (bandAbove k) (by omega), val_max_min, val_max_min]; omega)
    case isFalse stay =>
      have notBelow := mt (fun lt => (rising k).mpr (Fin.lt_def.mpr lt)) stay
      split
      case isTrue fall =>
        have above := Fin.lt_def.mp ((falling k).mp fall)
        have below := val_bandBelow k
        exact Fin.ext (by rw [ih (bandBelow k) (by omega), val_max_min, val_max_min]; omega)
      case isFalse rest =>
        have notAbove := mt (fun lt => (falling k).mpr (Fin.lt_def.mpr lt)) rest
        exact Fin.ext (by rw [val_max_min]; omega)

/-- Settles O28: with the thresholds in their order a band rises below the highest band cleared, and falls above the band that
contains the temperature. -/
theorem bandEvaluation : Obligations.BandEvaluation := by
  intro c t hysteresis first second containing cleared
  refine ⟨rfl, fun k => ?_⟩
  have rising (k : Axis) : rises c t k = true ↔ k < cleared := by
    simp only [cleared]
    fin_cases k <;> simp [rises, upperEdge] <;> split_ifs <;> simp <;> omega
  have falling (k : Axis) : falls c t k = true ↔ containing < k := by
    simp only [containing]
    fin_cases k <;> simp [falls, lowerEdge] <;> split_ifs <;> simp <;> omega
  have order : cleared ≤ containing := by
    simp only [cleared, containing]
    split_ifs <;> simp <;> omega
  have enough : (cleared.val - k.val) + (k.val - containing.val) ≤ 4 := by
    have := Fin.le_def.mp order
    omega
  rw [evaluateBand, settleBand_eq order rising falling 4 k enough]

/-! ## SET BANDS and SET LOSS -/

/-- One item writes the entry it names and no other. -/
theorem writeLoss_get (table : Four (Four LossEntry)) (i : LossItem) (n k : Axis) :
    ((writeLoss table i).get n).get k =
      if i.axis = n.val ∧ i.band = k.val then { c0 := i.c0, c1 := i.c1 } else (table.get n).get k := by
  unfold writeLoss
  split
  case h_1 m b axis band =>
    rw [axisOf_eq_some] at axis band
    rw [axis, band, Four.get_set]
    by_cases row : n = m
    · subst row
      rw [if_pos rfl, Four.get_set]
      simp [Fin.val_inj, eq_comm]
    · have : m.val ≠ n.val := fun same => row (Fin.ext same.symm)
      simp [row, this]
  case h_2 none =>
    rw [if_neg]
    rintro ⟨axis, band⟩
    exact none n k ((axisOf_eq_some _ _).mpr axis) ((axisOf_eq_some _ _).mpr band)

theorem foldl_writeLoss_of_unnamed (items : List LossItem) (table : Four (Four LossEntry)) (n k : Axis)
    (unnamed : ∀ i ∈ items, ¬ (i.axis = n.val ∧ i.band = k.val)) :
    ((items.foldl writeLoss table).get n).get k = (table.get n).get k := by
  induction items generalizing table with
  | nil => rfl
  | cons i rest ih =>
    rw [List.foldl_cons, ih _ fun j later => unnamed j (List.mem_cons_of_mem _ later), writeLoss_get,
      if_neg (unnamed i List.mem_cons_self)]

/-- With no entry named twice, each named entry takes its item's coefficients (R124). -/
theorem foldl_writeLoss_of_named (items : List LossItem) (table : Four (Four LossEntry)) (n k : Axis)
    (once : (items.map fun i => (i.axis, i.band)).Nodup) (i : LossItem) (named : i ∈ items) (axis : i.axis = n.val)
    (band : i.band = k.val) : ((items.foldl writeLoss table).get n).get k = { c0 := i.c0, c1 := i.c1 } := by
  induction items generalizing table with
  | nil => simp at named
  | cons j rest ih =>
    rw [List.map_cons, List.nodup_cons] at once
    obtain ⟨fresh, once⟩ := once
    rw [List.foldl_cons]
    rcases List.mem_cons.mp named with rfl | later
    · have unnamed (m : LossItem) (later : m ∈ rest) : ¬ (m.axis = n.val ∧ m.band = k.val) := by
        rintro ⟨sameAxis, sameBand⟩
        exact fresh (List.mem_map.mpr ⟨m, later, by rw [sameAxis, sameBand, axis, band]⟩)
      rw [foldl_writeLoss_of_unnamed rest _ n k unnamed, writeLoss_get, if_pos ⟨axis, band⟩]
    · exact ih _ once later

/-- Settles O27: SET BANDS by its restriction; SET LOSS by its two checks, then item by item. -/
theorem lossRequests : Obligations.LossRequests := by
  intro s c items
  generalize settled : settle s = w
  intro ready u
  refine ⟨?bands, ?loss⟩
  case bands =>
    intro good answered
    exact ⟨fun bad => exec_supervisor settled rfl ready (if_neg bad), fun fits => exec_supervisor settled rfl ready (if_pos fits)⟩
  case loss =>
    intro formed good answered
    refine ⟨fun malformed => ?malformed, fun wellFormed bad => ?badRange, fun wellFormed fits => ?accepted⟩
    case malformed => exact exec_supervisor settled rfl ready (if_pos malformed)
    case badRange =>
      exact exec_supervisor settled rfl ready ((if_neg (not_not.mpr wellFormed)).trans (if_pos bad))
    case accepted =>
      refine ⟨{ w with loss := { w.loss with table := items.foldl writeLoss w.loss.table } }, ?_, rfl, fun n k => ⟨?_, ?_⟩⟩
      · exact exec_supervisor settled rfl ready
          ((if_neg (not_not.mpr wellFormed)).trans (if_neg (not_not.mpr fits)))
      · exact fun i named axis band => foldl_writeLoss_of_named items _ n k wellFormed.2.2 i named axis band
      · exact fun unnamed => foldl_writeLoss_of_unnamed items _ n k unnamed

/-! ## LOAD BANK and SELECT BANK -/

section
variable {u : State} {name : BankName}

theorem activeCoefficients_isSome_iff (b : Bank) : b.activeCoefficients.isSome = true ↔ ∃ c, b = .active c := by
  cases b <;> simp [Bank.activeCoefficients]

theorem loadBankRequest_of_active {c : Coefficients} (active : ∃ d, u.road.bank name = .active d) :
    loadBankRequest (.fits { bank := some name, coefficients := c }) u = banksServed u .bankActive :=
  if_pos ((activeCoefficients_isSome_iff _).mpr active)

variable (idle : ∀ d, u.road.bank name ≠ .active d)
include idle

theorem not_isSome_of_notActive : ¬ (u.road.bank name).activeCoefficients.isSome = true := by
  rw [activeCoefficients_isSome_iff]
  rintro ⟨d, active⟩
  exact idle d active

theorem loadBankRequest_of_badRange {c : Coefficients} (bad : ¬ CoefficientsInRange c) :
    loadBankRequest (.fits { bank := some name, coefficients := c }) u = banksServed u .badRange :=
  (if_neg (not_isSome_of_notActive idle)).trans (if_neg bad)

theorem loadBankRequest_of_inRange {c : Coefficients} (inRange : CoefficientsInRange c) :
    loadBankRequest (.fits { bank := some name, coefficients := c }) u =
      banksServed { u with road := u.road.setBank name (.loaded c) } .ok :=
  (if_neg (not_isSome_of_notActive idle)).trans (if_pos inRange)

end

section
variable {u : State} {name : BankName}

theorem selectLater_of_active (active : ∃ d, u.road.bank name = .active d) :
    selectLater u name = banksServed { u with road := { u.road with pendingSelection := none } } .ok := by
  rw [selectLater, if_pos ((activeCoefficients_isSome_iff _).mpr active)]

theorem selectLater_of_notActive (idle : ∀ d, u.road.bank name ≠ .active d) :
    selectLater u name = banksServed { u with road := { u.road with pendingSelection := some name } } .ok := by
  rw [selectLater, if_neg (not_isSome_of_notActive idle)]

theorem selectNow_of_empty (empty : u.road.bank name = .empty) : selectNow u name = banksServed u .noBank := by
  simp only [selectNow, empty]

theorem selectNow_of_active {d : Coefficients} (active : u.road.bank name = .active d) :
    selectNow u name = banksServed u .ok := by
  simp only [selectNow, active]

/-- The bank named becomes ACTIVE, and the other stands down (R132). -/
theorem selectNow_of_loaded {d : Coefficients} (loaded : u.road.bank name = .loaded d) :
    selectNow u name =
      banksServed
        { u with
          road := (u.road.setBank name (.active d)).setBank (otherBank name) (u.road.bank (otherBank name)).standDown }
        .ok := by
  simp only [selectNow, loaded]

theorem selectBankRequest_of_stopping (stopping : u.schedule.state = .stopping) :
    selectBankRequest (.fits (some name)) u = banksServed u .refusedState := by
  simp only [selectBankRequest, stopping]

theorem selectBankRequest_of_underWay
    (underWay : u.schedule.state = .armed ∨ u.schedule.state = .running ∨ u.schedule.state = .dwell) :
    selectBankRequest (.fits (some name)) u = selectLater u name := by
  rcases underWay with state | state | state <;> simp only [selectBankRequest, state]

theorem selectBankRequest_of_noRun
    (noRun : u.schedule.state = .idle ∨ u.schedule.state = .ended ∨ u.schedule.state = .aborted) :
    selectBankRequest (.fits (some name)) u = selectNow u name := by
  rcases noRun with state | state | state <;> simp only [selectBankRequest, state]

theorem setBank_pendingSelection (r : RoadLoad) (name : BankName) (b : Bank) :
    (r.setBank name b).pendingSelection = r.pendingSelection := by
  cases name <;> rfl

theorem otherBank_eq_iff {x name : BankName} : x = otherBank name ↔ x ≠ name := by
  cases x <;> cases name <;> simp [otherBank]

theorem standDown_of_active (d : Coefficients) : (Bank.active d).standDown = .loaded d := rfl

theorem standDown_of_notActive {b : Bank} (idle : ∀ d, b ≠ .active d) : b.standDown = b := by
  cases b with
  | active d => exact absurd rfl (idle d)
  | _ => rfl

end

/-- Settles O29: LOAD BANK by the bank it names and the ranges; SELECT BANK by the schedule's state and that bank. -/
theorem bankRequests : Obligations.BankRequests := by
  intro s name c
  generalize settled : settle s = w
  intro ready u bank report loadAnswered selectAnswered good
  have bank_eq (r : RoadLoad) (x : BankName) : bank r x = r.bank x := by cases x <;> rfl
  have load {t : State} {code : Code}
      (served : loadBankRequest (.fits { bank := some name, coefficients := c }) w = banksServed t code) :
      loadAnswered t code := exec_supervisor settled rfl ready served
  have select {t : State} {code : Code} (served : selectBankRequest (.fits (some name)) w = banksServed t code) :
      selectAnswered t code := exec_supervisor settled rfl ready served
  simp only [bank_eq]
  refine ⟨exec_supervisor settled rfl ready rfl, fun active => ?loadActive, fun idle bad => ?loadBadRange,
    fun idle inRange => ?loaded, exec_supervisor settled rfl ready rfl, fun stopping => ?stopping, fun during => ?later,
    fun outside => ?now⟩
  case loadActive => exact load (loadBankRequest_of_active active)
  case loadBadRange => exact load (loadBankRequest_of_badRange idle bad)
  case loaded =>
    exact ⟨_, load (loadBankRequest_of_inRange idle inRange), rfl, setBank_pendingSelection _ _ _,
      fun x => RoadLoad.bank_setBank _ _ _ _⟩
  case stopping => exact select (selectBankRequest_of_stopping stopping)
  case later =>
    have later := selectBankRequest_of_underWay (name := name) during
    exact ⟨fun active => select (later.trans (selectLater_of_active active)),
      fun idle => select (later.trans (selectLater_of_notActive idle))⟩
  case now =>
    have now := selectBankRequest_of_noRun (name := name) outside
    refine ⟨fun empty => ?empty, fun d active => ?active, fun d loaded => ?loadedNow⟩
    case empty => exact select (now.trans (selectNow_of_empty empty))
    case active => exact select (now.trans (selectNow_of_active active))
    case loadedNow =>
      refine ⟨_, select (now.trans (selectNow_of_loaded loaded)), rfl, ?_, ?_, fun x other => ?_⟩
      · exact (setBank_pendingSelection _ _ _).trans (setBank_pendingSelection _ _ _)
      · rw [RoadLoad.bank_setBank, RoadLoad.bank_setBank, if_neg (by cases name <;> simp [otherBank]), if_pos rfl]
      · rw [RoadLoad.bank_setBank, if_pos (otherBank_eq_iff.mpr other), ← otherBank_eq_iff.mpr other]
        exact ⟨fun e active => by rw [show w.road.bank x = .active e from active]; rfl, fun idle => standDown_of_notActive idle⟩

end Sys2Proof.Machine

/-!
PROOF. Departures, conclusions and cancellations as one equation of the state each; a cause at the fault latch (R167 to R169),
the fault requests (R170 to R172) and the loss of a link (R160 to R162).
-/
namespace Sys2Proof.Machine
open Sys2Proof

/-! ## States field by field -/

theorem State.ext_fields {s t : State} (pending : t.pending = s.pending) (clock : t.clock = s.clock)
    (boundary : t.boundary = s.boundary) (queue : t.queue = s.queue) (schedule : t.schedule = s.schedule)
    (holds : t.holds = s.holds) (axes : t.axes = s.axes) (sync : t.sync = s.sync) (directives : t.directives = s.directives)
    (loss : t.loss = s.loss) (road : t.road = s.road) (links : t.links = s.links)
    (linkSettings : t.linkSettings = s.linkSettings) (latches : t.latches = s.latches) (safety : t.safety = s.safety)
    (level : t.safeStopAsserted = s.safeStopAsserted) (record : t.record = s.record) (trace : t.trace = s.trace)
    (receivers : t.receivers = s.receivers) (held : t.heldInReset = s.heldInReset) (drawn : t.drawn = s.drawn) : t = s := by
  cases s
  cases t
  simp only at *
  subst_vars
  rfl

theorem DirectiveUnit.ext_slots {d e : DirectiveUnit} (slots : ∀ n, d.slots.get n = e.slots.get n) (order : d.order = e.order)
    (guards : d.guards = e.guards) : d = e := by
  have slots : d.slots = e.slots := Four.ext_get _ _ slots
  cases d
  cases e
  simp only at *
  subst_vars
  rfl

theorem four_set_get {α : Type} (v : Four α) (n : Axis) : v.set n (v.get n) = v := by
  refine Four.ext_get _ _ fun m => ?_
  rw [Four.get_set]
  split
  case isTrue same => rw [same]
  case isFalse => rfl

/-! ## Departures and conclusions -/

section
variable (s : State) (n : Axis)

theorem closeSlip_record (s : State) (n : Axis) : closeSlip s n = { s with record := (closeSlip s n).record } := by
  rw [closeSlip_eq_closedAt]

/-- A departure, whole: the slip ends, the record is uncoupled, a grouped axis's release history is written (R84, R87, R103). -/
theorem leaveGroup_eq (sync : SyncState) :
    leaveGroup s n sync =
      { s with
        record := if (s.axis n).sync = .slipping then (closeSlip s n).record else s.record
        axes := s.axes.set n ((s.axis n).uncouple sync)
        directives :=
          { s.directives with
            slots :=
              if (s.axis n).group.isSome = true then s.directives.slots.set n { s.slot n with released := some s.clock.f }
              else s.directives.slots } } := by
  unfold leaveGroup
  rw [closeSlip_record]
  by_cases slipping : (s.axis n).sync = .slipping <;> by_cases grouped : (s.axis n).group.isSome = true <;>
    simp only [slipping, grouped, if_true, if_false] <;> rfl

theorem concludeDirective_eq (o : DirectiveOutcome) :
    concludeDirective s n o =
      { s with
        directives :=
          { s.directives with
            slots := s.directives.slots.set n { s.slot n with pending := none, outcome := o, outcomeFrame := s.clock.f }
            order := s.directives.order.filter (· ≠ n) } } := rfl

theorem cancelDirective_eq : cancelDirective s n = { s with directives := (cancelDirective s n).directives } := by
  unfold cancelDirective
  split <;> rfl

theorem releaseAxis_slot (m : Axis) :
    (releaseAxis s n).slot m =
      if m = n ∧ (s.axis n).group.isSome = true then { s.slot n with released := some s.clock.f } else s.slot m := by
  unfold releaseAxis
  split
  case isTrue grouped => rw [leaveGroup_slot]
  case isFalse ungrouped => simp [ungrouped]

theorem releaseAxis_record :
    (releaseAxis s n).record =
      if (s.axis n).group.isSome = true ∧ (s.axis n).sync = .slipping then (closeSlip s n).record else s.record := by
  unfold releaseAxis
  by_cases grouped : (s.axis n).group.isSome = true
  · rw [if_pos grouped, leaveGroup_record]
    simp [grouped]
  · simp [grouped]

end

/-! ## A cause at the fault latch -/

theorem applyFaultPolicy_eq (s : State) :
    applyFaultPolicy s =
      if s.schedule.faultPolicy = .stop ∧ s.schedule.state = .armed then enterAborted s .axisFault
      else if s.schedule.faultPolicy = .stop ∧ (s.schedule.state = .running ∨ s.schedule.state = .dwell) then
        enterStopping s .axisFault
      else s := by
  unfold applyFaultPolicy
  cases s.schedule.faultPolicy <;> cases s.schedule.state <;> simp

theorem CauseSet.insert_eq (x : CauseSet) (c : Cause) :
    x.insert c =
      { slip := x.slip || decide (c = .slip)
        linkLost := x.linkLost || decide (c = .linkLost)
        driveFault := x.driveFault || decide (c = .driveFault)
        miswired := x.miswired || decide (c = .miswired) } := by
  cases c <;> simp [CauseSet.insert]

section
variable (s : State) (n : Axis) (c : Cause)

/-- The directives after an axis fault: the departure's frame and the cancellation in the axis's own slot (R103, R110). -/
theorem faultedAxis_directives :
    (faultedAxis s n c).directives =
      { slots :=
          s.directives.slots.set n
            { pending := none
              outcome := if (s.slot n).pending.isSome = true then .cancelled else (s.slot n).outcome
              outcomeFrame := if (s.slot n).pending.isSome = true then s.clock.f else (s.slot n).outcomeFrame
              engaged := (s.slot n).engaged
              released := if (s.axis n).group.isSome = true then some s.clock.f else (s.slot n).released }
        order := if (s.slot n).pending.isSome = true then s.directives.order.filter (· ≠ n) else s.directives.order
        guards := s.directives.guards } := by
  have held (u : State) (who : Holder) (e : Option HoldEntry) : (u.setHold who e).directives = u.directives := by simp
  have clock : (leaveGroup s n .faulted).clock = s.clock := by simp
  have pending : ((leaveGroup s n .faulted).slot n).pending = (s.slot n).pending := by simp [State.slot]
  unfold faultedAxis
  rw [held]
  refine DirectiveUnit.ext_slots (fun m => ?slots) ?order ?guards
  case slots =>
    change (cancelDirective (leaveGroup s n .faulted) n).slot m = _
    rw [cancelDirective_slot, Four.get_set, pending, clock]
    by_cases here : m = n
    · rw [if_pos here, if_pos here, leaveGroup_slot]
      by_cases grouped : (s.axis n).group.isSome = true <;> simp [grouped]
    · rw [if_neg here, if_neg here, leaveGroup_slot, if_neg (by simp [here])]
      rfl
  case order => rw [cancelDirective_order, pending, leaveGroup_order]
  case guards => simp

theorem faultedAxis_record :
    (faultedAxis s n c).record = if (s.axis n).sync = .slipping then (closeSlip s n).record else s.record := by
  simp [faultedAxis, leaveGroup_record]

theorem faultedAxis_axes : (faultedAxis s n c).axes = s.axes.set n ((s.axis n).uncouple .faulted) := by
  simp [faultedAxis, State.axis]

theorem faultedAxis_hold (who : Holder) :
    (faultedAxis s n c).holds.get who = if who = .axis n then some (faultHold s c) else s.holds.get who := by
  simp [faultedAxis, HoldSet.get_put]

theorem faultHold_eq :
    faultHold s c =
      { scope := .any, placed := s.clock.f, expiry := none
        reason := match c with
          | .slip => 1#8
          | .linkLost => 2#8
          | .driveFault => 3#8
          | .miswired => 4#8 } := by
  cases c <;> rfl

end

/-- Settles O38: at a clear latch the axis's own changes, then the entry and the policy; at a set latch the cause joins. -/
theorem causeAtLatch : Obligations.CauseAtLatch := by
  intro s n c code l
  refine ⟨fun clear => ?clear, fun set => ?set⟩
  case clear =>
    let latched : State :=
      s.setLatch n
        { l with
          state := .set, firstCause := some c, faultFrame := some s.clock.f
          driveCode := if c = .driveFault then code else none }
    refine ⟨faultedAxis latched n c, ?frame, ?latches, faultedAxis_axes latched n c, ?record,
      faultedAxis_directives latched n c, fun who => ?holds, ?reactions⟩
    case frame =>
      refine State.ext_fields ?_ ?_ ?_ ?_ ?_ rfl rfl ?_ rfl ?_ ?_ ?_ ?_ rfl ?_ ?_ rfl ?_ ?_ ?_ ?_ <;>
        simp [faultedAxis, latched]
    case latches => simp [faultedAxis, latched]
    case record =>
      rw [faultedAxis_record, closeSlip_eq_closedAt, closeSlip_eq_closedAt]
      rfl
    case holds =>
      rw [faultedAxis_hold, faultHold_eq]
      rfl
    case reactions =>
      have schedule (e : ExceptionEntry) : (handEntry (faultedAxis latched n c) e).schedule = s.schedule := by
        simp [faultedAxis, latched]
      have entry : axisFaultEntry (faultedAxis latched n c) n c =
          { kind := .axisFault, opened := s.schedule.runFrame, closed := none, axis := some n, holder := none
            cause := some (.fault c) } := by
        simp [axisFaultEntry, pointEntry, faultedAxis, latched]
      dsimp only
      rw [raiseCause_clear s n c code clear, faultReactions_eq, applyFaultPolicy_eq, schedule, ← entry]
  case set => rw [raiseCause_set s n c code set, CauseSet.insert_eq]; rfl

/-! ## READ FAULT and CLEAR FAULT -/

section
variable {u : State} {n : Axis}

theorem readFaultRequest_axis : readFaultRequest (.fits n.val) u = latchServed (armLatch u n) n .ok := by
  simp only [readFaultRequest, axisOf_val]

theorem clearFaultRequest_axis :
    clearFaultRequest (.fits n.val) u =
      if ¬ ((u.latch n).state = .set ∧ (u.latch n).armed = true) then latchServed u n .notArmed
      else if (u.link n).state ≠ .up ∨ (u.axis n).driveStatus = some .fault then latchServed u n .conditionPresent
      else latchServed (clearFault u n) n .ok := by
  simp only [clearFaultRequest, axisOf_val]

theorem faultRequests_noAxis {i : Nat} (large : 4 ≤ i) :
    readFaultRequest (.fits i) u = refuse u .badParam .header ∧ clearFaultRequest (.fits i) u = refuse u .badParam .header := by
  simp only [readFaultRequest, clearFaultRequest, axisOf_of_le i large, and_self]

end

/-- Settles O39: the axis named, then the checks of each request in their order. -/
theorem faultRequests : Obligations.FaultRequests := by
  intro s i
  generalize settled : settle s = w
  intro ready u
  refine ⟨fun large => ?noAxis, fun n named => ?axis⟩
  case noAxis =>
    obtain ⟨read, clear⟩ := faultRequests_noAxis (u := w) large
    exact ⟨exec_supervisor settled rfl ready read, exec_supervisor settled rfl ready clear⟩
  case axis =>
    subst named
    intro shown cleared
    have answers {t : State} {code : Code} (served : clearFaultRequest (.fits n.val) w = latchServed t n code) :
        cleared t code := exec_supervisor settled rfl ready served
    refine ⟨exec_supervisor settled rfl ready readFaultRequest_axis, fun unarmed => ?_, fun set armed present => ?_,
      fun set armed up status => ?_⟩
    · refine answers (clearFaultRequest_axis.trans (if_pos ?_))
      rcases unarmed with clear | unarmed
      · exact fun ⟨set, _⟩ => by rw [show (w.latch n).state = .clear from clear] at set; cases set
      · exact fun ⟨_, armed⟩ => by rw [show (w.latch n).armed = false from unarmed] at armed; cases armed
    · exact answers (clearFaultRequest_axis.trans ((if_neg (not_not.mpr ⟨set, armed⟩)).trans (if_pos present)))
    · refine ⟨clearFault w n, answers (clearFaultRequest_axis.trans ((if_neg (not_not.mpr ⟨set, armed⟩)).trans (if_neg ?_))),
        rfl, rfl, rfl, fun who => clearFault_hold w n who⟩
      rintro (notUp | fault)
      · exact notUp up
      · exact status fault

/-! ## The loss of a link -/

/-- The loss, whole: the record stale, the link LOST, and the cause by R162. -/
theorem loseLink_eq (s : State) (n : Axis) :
    loseLink s n =
      let w : State :=
        { s with
          axes := s.axes.set n { s.axis n with stale := true }
          links := s.links.set n { s.link n with state := .lost } }
      if (s.axis n).group.isSome = true ∨
          ((s.axis n).mode = .road ∨ (s.axis n).mode = .speed) ∧ s.clock.state = .running then
        raiseCause w n .linkLost none
      else w := by
  have faults : lossFaults s n = true ↔
      (s.axis n).group.isSome = true ∨
        ((s.axis n).mode = .road ∨ (s.axis n).mode = .speed) ∧ s.clock.state = .running := by
    simp [lossFaults]
  exact if_congr faults rfl rfl

theorem linkSilent_iff (s : State) (n : Axis) :
    linkSilent s n = true ↔ (s.link n).state = .up ∧ (s.link n).lastPoll + s.linkSettings.timeout < s.clock.f := by
  simp [linkSilent]

/-- A receiver event finds any boundary in progress taken, and does nothing while the part is held in reset. -/
theorem receiverEvent_eq {f : State → State} {s u : State} (settled : settle s = u) :
    receiverEvent f s = if u.heldInReset = true then u else f u := by
  subst settled
  rfl

theorem exec_lineBreak {s u : State} (settled : settle s = u) (free : u.heldInReset = false) (p : Port) :
    exec (.lineBreak p) s = .next (breakLine p u) := by
  change Host.Outcome.next (receiverEvent (breakLine p) s) = _
  rw [receiverEvent_eq settled, if_neg (by simp [free])]

/-- A row that names a reaction's event takes the reaction where it is owed and the event happens. -/
theorem takeEvent_of_happens {r : Reaction} {happens : Bool} {s : State} (owed : r ∈ s.boundary.owed)
    (event : happens = true) : takeEvent r happens s = takeReaction s r := if_pos ⟨owed, event⟩

theorem takeEvent_of_not {r : Reaction} {happens : Bool} {s : State} (absent : r ∉ s.boundary.owed ∨ happens = false) :
    takeEvent r happens s = s := by
  refine if_neg ?_
  rintro ⟨owed, event⟩
  rcases absent with notOwed | no
  · exact notOwed owed
  · simp [event] at no

theorem takeOwed_of_mem {r : Reaction} {s : State} (owed : r ∈ s.boundary.owed) :
    takeOwed s r = react r { s with boundary := { s.boundary with owed := s.boundary.owed.filter (· ≠ r) } } := if_pos owed

/-- Settles O37: the check where it is owed, then the break on each port. -/
theorem linkLoss : Obligations.LinkLoss := by
  intro s n lost
  have lost_eq (v : State) : loseLink v n = lost v := loseLink_eq v n
  refine ⟨fun owed up silent => ?timeout, fun absent => ?noTimeout, ?broken⟩
  case timeout =>
    have silent : linkSilent s n = true := (linkSilent_iff s n).mpr ⟨up, silent⟩
    have taken : exec (.linkTimeout n) s = .next (takeEvent (.link n) (linkSilent s n) s) := rfl
    rw [taken, takeEvent_of_happens owed silent, ← lost_eq]
    refine congrArg Host.Outcome.next ((takeOwed_of_mem owed).trans ?_)
    exact if_pos silent
  case noTimeout =>
    refine congrArg Host.Outcome.next (takeEvent_of_not ?_)
    rcases absent with notOwed | notUp | recent
    · exact .inl notOwed
    · exact .inr (Bool.eq_false_iff.mpr fun silent => notUp ((linkSilent_iff s n).mp silent).1)
    · exact .inr (Bool.eq_false_iff.mpr fun silent => absurd ((linkSilent_iff s n).mp silent).2 (by omega))
  case broken =>
    generalize settled : settle s = w
    intro u
    refine ⟨fun held p => ?held, fun free => ?free⟩
    case held =>
      change Host.Outcome.next (receiverEvent (breakLine p) s) = _
      rw [receiverEvent_eq settled, if_pos held]
    case free =>
      refine ⟨exec_lineBreak settled free _, exec_lineBreak settled free _, fun notUp => ?_, fun up => ?_⟩
      · rw [exec_lineBreak settled free]
        exact congrArg Host.Outcome.next (if_neg notUp)
      · rw [exec_lineBreak settled free, ← lost_eq]
        exact congrArg Host.Outcome.next (if_pos up)

end Sys2Proof.Machine

/-!
PROOF. The SAFE-STOP line (R174, R175), SET AXIS (R77, R78) and COUPLE (R96, R97).
-/
namespace Sys2Proof.Machine
open Sys2Proof

/-! ## Every axis released, every directive cancelled -/

theorem mem_axes (n : Axis) : n ∈ Sys2Proof.axes := by
  fin_cases n <;> decide

theorem foldl_releaseAxis_slot (xs : List Axis) (s : State) (n : Axis) :
    (xs.foldl releaseAxis s).slot n =
      if n ∈ xs ∧ (s.axis n).group.isSome = true then { s.slot n with released := some s.clock.f } else s.slot n := by
  induction xs generalizing s with
  | nil => simp
  | cons x xs ih =>
    have clock : (releaseAxis s x).clock = s.clock := by simp
    rw [List.foldl_cons, ih, releaseAxis_axis, releaseAxis_slot, clock]
    by_cases same : n = x
    · subst same
      by_cases grouped : (s.axis n).group.isSome = true <;> simp [grouped, AxisRecord.uncouple]
    · simp [same]

/-- The slot of an axis after its pending directive, if any, is cancelled (R110 to R112). -/
def DirectiveSlot.cancelledAt (x : DirectiveSlot) (f : Nat) : DirectiveSlot :=
  { x with
    pending := none
    outcome := if x.pending.isSome = true then .cancelled else x.outcome
    outcomeFrame := if x.pending.isSome = true then f else x.outcomeFrame }

theorem cancelDirective_slot_eq (s : State) (n m : Axis) :
    (cancelDirective s n).slot m = if m = n then (s.slot n).cancelledAt s.clock.f else s.slot m :=
  cancelDirective_slot s n m

theorem cancelledAt_cancelledAt (x : DirectiveSlot) (f : Nat) : (x.cancelledAt f).cancelledAt f = x.cancelledAt f := by
  simp [DirectiveSlot.cancelledAt]

theorem foldl_cancelDirective_slot (xs : List Axis) (s : State) (n : Axis) :
    (xs.foldl cancelDirective s).slot n = if n ∈ xs then (s.slot n).cancelledAt s.clock.f else s.slot n := by
  induction xs generalizing s with
  | nil => simp
  | cons x xs ih =>
    have clock : (cancelDirective s x).clock = s.clock := by simp
    rw [List.foldl_cons, ih, cancelDirective_slot_eq, clock]
    by_cases same : n = x
    · subst same
      by_cases later : n ∈ xs <;> simp [later, cancelledAt_cancelledAt]
    · simp [same]

theorem foldl_cancelDirective_order (xs : List Axis) (s : State) :
    (xs.foldl cancelDirective s).directives.order =
      s.directives.order.filter fun n => decide (¬ (n ∈ xs ∧ (s.slot n).pending.isSome = true)) := by
  induction xs generalizing s with
  | nil => simp
  | cons x xs ih =>
    rw [List.foldl_cons, ih, cancelDirective_order]
    by_cases pending : (s.slot x).pending.isSome = true
    · rw [if_pos pending, List.filter_filter]
      refine List.filter_congr fun n _ => ?_
      rw [cancelDirective_slot_eq]
      by_cases same : n = x
      · subst same
        simp [pending]
      · simp [same]
    · rw [if_neg pending]
      refine List.filter_congr fun n _ => ?_
      rw [cancelDirective_slot_eq]
      by_cases same : n = x
      · subst same
        simp [pending, DirectiveSlot.cancelledAt]
      · simp [same]

/-- With no slip open, releases leave the record as it is. -/
theorem foldl_releaseAxis_record (xs : List Axis) (s : State) (noSlip : s.record.slipRef = .all none) :
    (xs.foldl releaseAxis s).record = s.record := by
  have closed (u : State) (n : Axis) (noSlip : u.record.slipRef = .all none) : (closeSlip u n).record = u.record := by
    have unopened : u.record.slipRef.get n = none := by rw [noSlip, Four.get_all]
    have kept : u.record.slipRef.set n none = u.record.slipRef := by rw [← unopened, four_set_get]
    rw [closeSlip_eq_closedAt, unopened, kept]
    rfl
  induction xs generalizing s with
  | nil => rfl
  | cons x xs ih =>
    have record : (releaseAxis s x).record = s.record := by
      rw [releaseAxis_record, closed s x noSlip, ite_self]
    rw [List.foldl_cons, ih _ (by rw [record]; exact noSlip), record]

/-! ## The assertion -/

section
variable (s : State)

theorem safeStopReactions_schedule :
    (safeStopReactions s).schedule = (if s.runActive then enterAborted s .safeStop else s).schedule := by
  unfold safeStopReactions
  dsimp only
  rw [foldl_keeps State.schedule _ (by simp), foldl_keeps State.schedule _ (by simp)]

theorem safeStopReactions_road :
    (safeStopReactions s).road = (if s.runActive then enterAborted s .safeStop else s).road := by
  unfold safeStopReactions
  dsimp only
  rw [foldl_keeps State.road _ (by simp), foldl_keeps State.road _ (by simp)]

theorem safeStopReactions_record
    (noSlip : (if s.runActive then enterAborted s .safeStop else s).record.slipRef = .all none) :
    (safeStopReactions s).record = (if s.runActive then enterAborted s .safeStop else s).record := by
  unfold safeStopReactions
  dsimp only
  rw [foldl_keeps State.record _ (by simp), foldl_releaseAxis_record _ _ noSlip]

theorem safeStopReactions_slot (n : Axis) :
    (safeStopReactions s).slot n =
      (if (s.axis n).group.isSome = true then { s.slot n with released := some s.clock.f } else s.slot n).cancelledAt
        s.clock.f := by
  have axis : (if s.runActive then enterAborted s .safeStop else s).axis n = s.axis n :=
    State.axis_congr n (by split <;> simp)
  have slot : (if s.runActive then enterAborted s .safeStop else s).slot n = s.slot n :=
    State.slot_congr n (by split <;> simp)
  have clock : (if s.runActive then enterAborted s .safeStop else s).clock = s.clock := by split <;> simp
  have released (xs : List Axis) (u : State) : (xs.foldl releaseAxis u).clock = u.clock :=
    foldl_keeps State.clock _ (by simp) _ _
  unfold safeStopReactions
  dsimp only
  rw [foldl_cancelDirective_slot, if_pos (mem_axes n), released, foldl_releaseAxis_slot, axis, slot, clock]
  simp [mem_axes]

theorem safeStopReactions_guards : (safeStopReactions s).directives.guards = s.directives.guards := by
  unfold safeStopReactions
  dsimp only
  rw [foldl_keeps (fun u : State => u.directives.guards) cancelDirective (by simp),
    foldl_keeps (fun u : State => u.directives.guards) releaseAxis (fun u n => by unfold releaseAxis; split <;> simp)]
  split <;> simp

theorem safeStopReactions_order :
    (safeStopReactions s).directives.order = s.directives.order.filter fun n => (s.slot n).pending.isNone := by
  have order : (if s.runActive then enterAborted s .safeStop else s).directives = s.directives := by split <;> simp
  have kept (xs : List Axis) (u : State) : (xs.foldl releaseAxis u).directives.order = u.directives.order :=
    foldl_keeps (fun u : State => u.directives.order) releaseAxis (fun u n => by unfold releaseAxis; split <;> simp) _ _
  have pending (n : Axis) (u : State) : ((Sys2Proof.axes.foldl releaseAxis u).slot n).pending = (u.slot n).pending := by
    rw [foldl_releaseAxis_slot]
    split <;> rfl
  unfold safeStopReactions
  dsimp only
  rw [foldl_cancelDirective_order, kept, order]
  refine List.filter_congr fun n _ => ?_
  rw [pending, State.slot_congr n (congrArg DirectiveUnit.slots order)]
  cases (s.slot n).pending <;> simp [mem_axes]

end

theorem enterAborted_slipRef (s : State) (cause : StopCause) : (enterAborted s cause).record.slipRef = .all none := by
  rw [enterAborted, finishRun_eq, closeEpisodes_eq]

/-- What aborts a run does not look at the safety latch. -/
theorem enterAborted_latched (s : State) (safety : SafetyLatch) (level : Bool) (cause : StopCause) :
    enterAborted { s with safety := safety, safeStopAsserted := level } cause =
      { enterAborted s cause with safety := safety, safeStopAsserted := level } := by
  simp only [enterAborted, finishRun_eq, closeEpisodes_eq, placeRunStop_eq, placeEntry_eq]
  rfl

theorem exec_safeStopAssert {s u : State} (settled : settle s = u) (free : u.heldInReset = false) :
    exec .safeStopAssert s = .next (assertSafeStop u) := by
  subst settled
  exact congrArg Host.Outcome.next (if_neg (by simpa using free))

theorem exec_safeStopDeassert {s u : State} (settled : settle s = u) (free : u.heldInReset = false) :
    exec .safeStopDeassert s = .next (deassertSafeStop u) := by
  subst settled
  exact congrArg Host.Outcome.next (if_neg (by simpa using free))

/-- Settles O41: the line out of reset, then the assertion's reactions block by block. -/
theorem safeStopLine : Obligations.SafeStopLine := by
  intro s
  generalize settled : settle s = w
  intro u
  refine ⟨fun held => ?held, fun free => ⟨exec_safeStopDeassert settled free, fun already => ?already, fun fresh => ?fresh⟩⟩
  case held =>
    subst settled
    exact ⟨congrArg Host.Outcome.next (if_pos held), congrArg Host.Outcome.next (if_pos held)⟩
  case already =>
    rw [exec_safeStopAssert settled free, assertSafeStop, if_pos already]
    exact congrArg Host.Outcome.next (State.ext_fields rfl rfl rfl rfl rfl rfl rfl rfl rfl rfl rfl rfl rfl rfl already.symm rfl
      rfl rfl rfl rfl rfl)
  case fresh =>
    let latched : State := { w with safety := .safeAsserted, safeStopAsserted := true }
    have asserted : assertSafeStop w = safeStopReactions latched := if_neg fresh
    refine ⟨safeStopReactions latched, by rw [exec_safeStopAssert settled free, asserted], ?frame, fun active => ?active,
      fun inactive => ?inactive, fun n => safeStopReactions_axis latched n, fun n => ?slot, safeStopReactions_guards latched,
      safeStopReactions_order latched⟩
    case frame =>
      refine State.ext_fields ?_ ?_ ?_ ?_ rfl ?_ rfl ?_ rfl ?_ rfl ?_ ?_ ?_ ?_ ?_ rfl ?_ ?_ ?_ ?_ <;> simp [latched, u]
    case active =>
      have aborted : (if latched.runActive then enterAborted latched .safeStop else latched) =
          { enterAborted w .safeStop with safety := .safeAsserted, safeStopAsserted := true } :=
        (if_pos active).trans (enterAborted_latched w _ _ _)
      refine ⟨?_, ?_, ?_⟩
      · rw [safeStopReactions_schedule, aborted]
      · rw [safeStopReactions_road, aborted]
      · rw [safeStopReactions_record _ (by rw [aborted]; exact enterAborted_slipRef w _), aborted]
    case inactive =>
      have kept : (if latched.runActive then enterAborted latched .safeStop else latched) = latched := if_neg (by
        rw [show latched.runActive = false from inactive]; simp)
      refine ⟨?_, ?_, fun noSlip => ?_⟩
      · rw [safeStopReactions_schedule, kept]
      · rw [safeStopReactions_road, kept]
      · rw [safeStopReactions_record _ (by rw [kept]; exact noSlip), kept]
    case slot =>
      rw [safeStopReactions_slot]
      by_cases grouped : (w.axis n).group.isSome = true
      · rw [if_pos (show (latched.axis n).group.isSome = true from grouped), if_pos (show (u.axis n).group.isSome = true from grouped)]
        rfl
      · rw [if_neg (show ¬ (latched.axis n).group.isSome = true from grouped),
          if_neg (show ¬ (u.axis n).group.isSome = true from grouped)]
        rfl

end Sys2Proof.Machine

/-!
PROOF. SET AXIS (R77, R78, R87, R110, R152) and COUPLE (R96, R97).
-/
namespace Sys2Proof.Machine
open Sys2Proof

/-! ## An accepted SET AXIS -/

/-- The three values and the effective limit of an axis set, before a mode other than ROAD releases it. -/
def axisValued (s : State) (n : Axis) (mode : AxisMode) (forceLimit rollerMass : Int) : State :=
  refreshLimit (s.setAxis n { s.axis n with mode := mode, forceLimit := forceLimit, rollerMass := rollerMass }) n

theorem applyAxis_eq (s : State) (n : Axis) (mode : AxisMode) (forceLimit rollerMass : Int) :
    applyAxis s n mode forceLimit rollerMass =
      if mode = .road then axisValued s n mode forceLimit rollerMass
      else cancelDirective (releaseAxis (axisValued s n mode forceLimit rollerMass) n) n := rfl

section
variable (s : State) (n m : Axis) (mode : AxisMode) (forceLimit rollerMass : Int)

theorem axisValued_axis :
    (axisValued s n mode forceLimit rollerMass).axis m =
      if m = n then { s.axis n with mode := mode, forceLimit := forceLimit, rollerMass := rollerMass } else s.axis m := by
  have axes : (axisValued s n mode forceLimit rollerMass).axes =
      (s.setAxis n { s.axis n with mode := mode, forceLimit := forceLimit, rollerMass := rollerMass }).axes := by
    simp [axisValued]
  rw [State.axis_congr m axes, State.axis_setAxis]

theorem axisValued_link :
    (axisValued s n mode forceLimit rollerMass).link m =
      if m = n then { s.link n with limit := (s.link n).rating.map fun rating => min forceLimit rating } else s.link m := by
  unfold axisValued refreshLimit
  rw [State.link_setLink, State.axis_setAxis, if_pos rfl]
  rfl

theorem axisValued_directives : (axisValued s n mode forceLimit rollerMass).directives = s.directives := by
  simp [axisValued]

theorem axisValued_record : (axisValued s n mode forceLimit rollerMass).record = s.record := by
  simp [axisValued]

theorem axisValued_clock : (axisValued s n mode forceLimit rollerMass).clock = s.clock := by
  simp [axisValued]

theorem applyAxis_link :
    (applyAxis s n mode forceLimit rollerMass).link m =
      if m = n then { s.link n with limit := (s.link n).rating.map fun rating => min forceLimit rating } else s.link m := by
  rw [applyAxis_eq, ← axisValued_link s n m mode]
  split
  · rfl
  · exact State.link_congr m (by simp)

/-- A mode other than ROAD takes a grouped axis out of its group (R78, R87). -/
theorem applyAxis_axis :
    (applyAxis s n mode forceLimit rollerMass).axis m =
      if m = n then
        if mode ≠ .road ∧ (s.axis n).group.isSome = true then
          { s.axis n with
            mode := mode, forceLimit := forceLimit, rollerMass := rollerMass, group := none, sync := .uncoupled
            lockCount := 0, slipCount := 0, speedError := 0 }
        else { s.axis n with mode := mode, forceLimit := forceLimit, rollerMass := rollerMass }
      else s.axis m := by
  rw [applyAxis_eq]
  by_cases road : mode = .road
  · simp [road, axisValued_axis]
  · have cancelled (u : State) : (cancelDirective u n).axis m = u.axis m := by simp [State.axis]
    rw [if_neg road, cancelled, releaseAxis_axis, axisValued_axis, axisValued_axis, if_pos rfl]
    by_cases here : m = n
    · by_cases grouped : (s.axis n).group.isSome = true <;> simp [here, road, grouped, AxisRecord.uncouple]
    · simp [here]

theorem axisValued_slot : (axisValued s n mode forceLimit rollerMass).slot m = s.slot m :=
  State.slot_congr m (congrArg DirectiveUnit.slots (axisValued_directives s n mode forceLimit rollerMass))

/-- The departure's frame and the cancellation in the axis's own slot (R103, R110). -/
theorem applyAxis_slot :
    (applyAxis s n mode forceLimit rollerMass).slot m =
      if m = n then
        { pending := if mode ≠ .road then none else (s.slot n).pending
          outcome := if mode ≠ .road ∧ (s.slot n).pending.isSome = true then .cancelled else (s.slot n).outcome
          outcomeFrame := if mode ≠ .road ∧ (s.slot n).pending.isSome = true then s.clock.f else (s.slot n).outcomeFrame
          engaged := (s.slot n).engaged
          released := if mode ≠ .road ∧ (s.axis n).group.isSome = true then some s.clock.f else (s.slot n).released }
      else s.slot m := by
  have departed (u : State) : (releaseAxis u n).clock = u.clock := by simp
  rw [applyAxis_eq]
  by_cases road : mode = .road
  · rw [if_pos road, axisValued_slot]
    by_cases here : m = n <;> simp [here, road]
  · rw [if_neg road, cancelDirective_slot, releaseAxis_slot, releaseAxis_slot, departed, axisValued_clock, axisValued_slot,
      axisValued_slot, axisValued_axis, if_pos rfl]
    by_cases here : m = n
    · by_cases grouped : (s.axis n).group.isSome = true <;> simp [here, road, grouped]
    · simp [here]

theorem applyAxis_order :
    (applyAxis s n mode forceLimit rollerMass).directives.order =
      if mode ≠ .road ∧ (s.slot n).pending.isSome = true then s.directives.order.filter (· ≠ n) else s.directives.order := by
  rw [applyAxis_eq]
  by_cases road : mode = .road
  · simp [road, axisValued_directives]
  · have order : (releaseAxis (axisValued s n mode forceLimit rollerMass) n).directives.order = s.directives.order := by
      rw [← axisValued_directives s n mode forceLimit rollerMass]
      unfold releaseAxis
      split <;> simp
    have pending : ((releaseAxis (axisValued s n mode forceLimit rollerMass) n).slot n).pending = (s.slot n).pending := by
      rw [releaseAxis_slot, axisValued_slot]
      split <;> rfl
    rw [if_neg road, cancelDirective_order, order, pending]
    simp [road]

theorem applyAxis_guards : (applyAxis s n mode forceLimit rollerMass).directives.guards = s.directives.guards := by
  rw [applyAxis_eq, ← axisValued_directives s n mode forceLimit rollerMass]
  unfold releaseAxis
  split
  · rfl
  · rw [cancelDirective_guards]
    split <;> simp

theorem applyAxis_record :
    (applyAxis s n mode forceLimit rollerMass).record =
      if mode ≠ .road ∧ (s.axis n).group.isSome = true ∧ (s.axis n).sync = .slipping then (closeSlip s n).record
      else s.record := by
  have slip : (closeSlip (axisValued s n mode forceLimit rollerMass) n).record = (closeSlip s n).record := by
    rw [closeSlip_eq_closedAt, closeSlip_eq_closedAt]
    rfl
  rw [applyAxis_eq]
  by_cases road : mode = .road
  · simp [road, axisValued_record]
  · have cancelled (u : State) : (cancelDirective u n).record = u.record := by simp
    rw [if_neg road, cancelled, releaseAxis_record, slip, axisValued_axis, if_pos rfl, axisValued_record]
    simp [road]

end

/-! ## The request -/

section
variable {u : State} {n : Axis} {r : AxisFields}

theorem setAxisRequest_of_active (active : u.runActive = true) :
    setAxisRequest (.fits r) u = axisSettingsServed u .runActive (axisOf r.axis) := if_pos active

variable (inactive : u.runActive = false)
include inactive

theorem setAxisRequest_of_noAxis (large : 4 ≤ r.axis) :
    setAxisRequest (.fits r) u = axisSettingsServed u .badParam none := by
  simp only [setAxisRequest, inactive, axisOf_of_le _ large]
  rfl

variable (named : r.axis = n.val)
include named

theorem setAxisRequest_of_noMode (mode : r.mode = none) :
    setAxisRequest (.fits r) u = axisSettingsServed u .badParam (some n) := by
  simp only [setAxisRequest, inactive, named, axisOf_val, mode]
  rfl

theorem setAxisRequest_of_mode {mode : AxisMode} (given : r.mode = some mode) :
    setAxisRequest (.fits r) u =
      if InRange 1000 12000 r.forceLimit ∧ InRange 0 2000 r.rollerMass then
        axisSettingsServed (applyAxis u n mode r.forceLimit r.rollerMass) .ok (some n)
      else axisSettingsServed u .badRange (some n) := by
  simp only [setAxisRequest, inactive, named, axisOf_val, given]
  rfl

end

/-- Settles O22: the checks in their order; an accepted request axis by axis and slot by slot. -/
theorem setAxisResult : Obligations.SetAxisResult := by
  intro s r
  generalize settled : settle s = w
  intro ready u settings answered
  have served {t : State} {code : Code} {axis : Option Axis}
      (outcome : setAxisRequest (.fits r) w = axisSettingsServed t code axis) : answered t code (axisSettingsBody t axis) :=
    exec_supervisor settled rfl ready outcome
  refine ⟨fun large => ?noAxis, fun n named => ⟨fun active => ?active, fun inactive noMode => ?noMode,
    fun mode inactive given => ⟨fun bad => ?badRange, fun fits => ?accepted⟩⟩⟩
  case noAxis =>
    by_cases active : u.runActive = true
    · rw [if_pos active]
      have outcome := setAxisRequest_of_active (r := r) active
      rw [axisOf_of_le _ large] at outcome
      exact served outcome
    · rw [if_neg active]
      exact served (setAxisRequest_of_noAxis (by simpa using active) large)
  case active =>
    have outcome := setAxisRequest_of_active (r := r) active
    rw [named, axisOf_val] at outcome
    exact served outcome
  case noMode => exact served (setAxisRequest_of_noMode inactive named noMode)
  case badRange => exact served ((setAxisRequest_of_mode inactive named given).trans (if_neg bad))
  case accepted =>
    have slot := applyAxis_slot w n n mode r.forceLimit r.rollerMass
    rw [if_pos rfl] at slot
    refine ⟨applyAxis w n mode r.forceLimit r.rollerMass,
      served ((setAxisRequest_of_mode inactive named given).trans (if_pos fits)), ?frame, fun m other => ⟨?_, ?_, ?_⟩, ?link,
      applyAxis_guards _ _ _ _ _, ?axis, ?slots⟩
    case frame =>
      refine State.ext_fields ?_ ?_ ?_ ?_ ?_ ?_ rfl ?_ rfl ?_ ?_ rfl ?_ ?_ ?_ ?_ rfl ?_ ?_ ?_ ?_ <;> simp [u]
    · rw [applyAxis_axis, if_neg other]
    · rw [applyAxis_link, if_neg other]
    · rw [applyAxis_slot, if_neg other]
    case link => rw [applyAxis_link, if_pos rfl]
    case axis =>
      rw [applyAxis_axis, if_pos rfl]
      simp [u]
    case slots =>
      rw [slot, applyAxis_order, applyAxis_record]
      simp [u, and_assoc]

/-! ## COUPLE -/

theorem coupleAction_misfit {a : CoupleAction} (misfit : a = .other ∨ a = .engage none ∨ ∃ g, a = .release (some g)) :
    coupleAction a = .error .badParam := by
  rcases misfit with rfl | rfl | ⟨g, rfl⟩ <;> rfl

theorem coupleAction_badGroup {g : Nat} (one : g ≠ 1) (two : g ≠ 2) : coupleAction (.engage (some g)) = .error .badRange := by
  have none : groupOf g = none := by
    unfold groupOf
    split
    · exact absurd rfl one
    · exact absurd rfl two
    · rfl
  simp only [coupleAction, none]

theorem coupleAction_ok {a : CoupleAction} {action : Action}
    (spelled : a = .engage (some 1) ∧ action = .engage .one ∨ a = .engage (some 2) ∧ action = .engage .two ∨
      a = .release none ∧ action = .release) : coupleAction a = .ok action := by
  rcases spelled with ⟨rfl, rfl⟩ | ⟨rfl, rfl⟩ | ⟨rfl, rfl⟩ <;> rfl

/-- The placement checks, with the code each has in COUPLE's answer (R96, R97). -/
theorem placementRefusal_code (s : State) (n : Axis) (action : Action) :
    (placementRefusal s n action).map (fun o => (o, o.code)) =
      if s.safety ≠ .normal then some (.refusedSafe, .refusedSafe)
      else if (s.latch n).state = .set then some (.refusedFault, .refusedFault)
      else if action = .release then none
      else if (s.axis n).mode ≠ .road then some (.refusedMode, .refusedMode)
      else if (s.link n).state ≠ .up then some (.refusedLink, .refusedLink)
      else if ∃ g ∈ (s.axis n).group, action ≠ .engage g then some (.refusedEngaged, .refusedEngaged)
      else none := by
  unfold placementRefusal
  cases action with
  | release => simp [apply_ite (Option.map _), DirectiveOutcome.code]
  | engage g =>
    have other : ((s.axis n).group ≠ none ∧ (s.axis n).group ≠ some g) ↔
        ∃ x ∈ (s.axis n).group, Action.engage g ≠ .engage x := by
      cases (s.axis n).group <;> simp [eq_comm]
    simp [apply_ite (Option.map _), DirectiveOutcome.code, other]

theorem placeDirective_order (s : State) (n : Axis) (action : Action) :
    (placeDirective s n action).directives.order =
      match placementRefusal s n action with
      | some _ => s.directives.order
      | none => s.directives.order.filter (· ≠ n) ++ [n] := by
  unfold placeDirective
  cases placementRefusal s n action <;> rfl

theorem placeDirective_guards (s : State) (n : Axis) (action : Action) :
    (placeDirective s n action).directives.guards = s.directives.guards := by
  unfold placeDirective
  split <;> rfl

section
variable {u : State} {n : Axis} {c : CoupleFields}

theorem coupleRequest_of_noAxis (large : 4 ≤ c.axis) : coupleRequest (.fits c) u = coupleServed u .badParam none none := by
  simp only [coupleRequest, axisOf_of_le _ large]

variable (named : c.axis = n.val)
include named

theorem coupleRequest_of_error {code : Code} (error : coupleAction c.action = .error code) :
    coupleRequest (.fits c) u = coupleServed u code (some n) none := by
  simp only [coupleRequest, named, axisOf_val, error]

variable {action : Action} (spelled : coupleAction c.action = .ok action)
include spelled

theorem coupleRequest_of_refused {o : DirectiveOutcome} (refused : placementRefusal u n action = some o) :
    coupleRequest (.fits c) u = coupleServed (placeDirective u n action) o.code (some n) none := by
  simp only [coupleRequest, named, axisOf_val, spelled, refused]

theorem coupleRequest_of_placed (placed : placementRefusal u n action = none) :
    coupleRequest (.fits c) u =
      coupleServed (placeDirective u n action) .ok (some n)
        (if (u.slot n).pending.isSome then some .superseded else none) := by
  simp only [coupleRequest, named, axisOf_val, spelled, placed]

end

/-- Settles O25: the form of the request, then the placement, refused or made. -/
theorem coupleResult : Obligations.CoupleResult := by
  intro s c
  generalize settled : settle s = w
  intro ready u report answered
  have served {t : State} {code : Code} {n : Axis} {superseded : Option DirectiveOutcome}
      (outcome : coupleRequest (.fits c) w = coupleServed t code (some n) superseded) :
      answered t code (report t n superseded) := exec_supervisor settled rfl ready outcome
  refine ⟨fun large => exec_supervisor settled rfl ready (coupleRequest_of_noAxis large), fun n named =>
    ⟨fun misfit => served (coupleRequest_of_error named (coupleAction_misfit misfit)),
      fun g engage one two => served (coupleRequest_of_error named (by rw [engage]; exact coupleAction_badGroup one two)),
      fun action spelled => ?placement⟩⟩
  case placement =>
    have spelled := coupleAction_ok spelled
    intro refusal
    have refusal_eq : (placementRefusal w n action).map (fun o => (o, o.code)) = refusal := placementRefusal_code w n action
    have slot := placeDirective_slot w n n action
    have order := placeDirective_order w n action
    rw [if_pos rfl] at slot
    refine ⟨placeDirective w n action, ?frame, placeDirective_guards w n action, fun m other => ?others, ?outcome⟩
    case frame =>
      refine State.ext_fields ?_ ?_ ?_ ?_ ?_ ?_ ?_ ?_ rfl ?_ ?_ ?_ ?_ ?_ ?_ ?_ ?_ ?_ ?_ ?_ ?_ <;> simp [u]
    case others => rw [placeDirective_slot, if_neg other]
    case outcome =>
      rw [← refusal_eq]
      cases refused : placementRefusal w n action with
      | some o =>
        rw [refused] at slot order
        exact ⟨served (coupleRequest_of_refused named spelled refused), slot, order⟩
      | none =>
        rw [refused] at slot order
        exact ⟨served (coupleRequest_of_placed named spelled refused), slot, order⟩

end Sys2Proof.Machine

/-!
PROOF. The drives' requests: HELLO (R149 to R152), POLL (R153 to R156), a sample's class and delivery (R75, R76, R155), the
sync update (R83, R84), and the POLLs that lock an axis or bring its slip to the persist count.
-/
namespace Sys2Proof.Machine
open Sys2Proof

/-! ## The drive commands -/

section
variable {s u t : State} {n dest : Axis} {payload : List Byte} {code : Code} {body : Body} {kind : Option Byte}
variable (settled : settle s = u) (ready : portReady u (.drive n) = true)
include settled ready

theorem takeDrive_served {own : Byte} {h : State → Served}
    (served : h u = { state := t, code := code, body := body, kind := kind }) :
    takeDrive n dest own h s = answerDrive t n dest (kind.getD own) code body := by
  subst settled
  rw [takeDrive_taken n dest own h s ready, served]

theorem exec_hello (served : helloRequest n payload u = { state := t, code := code, body := body, kind := kind }) :
    exec (.hello n dest payload) s = .next (answerDrive t n dest (kind.getD 0x70#8) code body) :=
  congrArg Host.Outcome.next (takeDrive_served settled ready served)

theorem takePoll_served (served : pollRequest n payload u = { state := t, code := code, body := body, kind := kind }) :
    takePoll n dest payload s = answerDrive t n dest (kind.getD 0x71#8) code body :=
  takeDrive_served settled ready served

theorem exec_poll (served : pollRequest n payload u = { state := t, code := code, body := body, kind := kind }) :
    exec (.poll n dest payload) s = .next (answerDrive t n dest (kind.getD 0x71#8) code body) :=
  congrArg Host.Outcome.next (takePoll_served settled ready served)

end

/-! ## HELLO -/

theorem four_set_set {α : Type} (v : Four α) (n : Axis) (x y : α) : (v.set n x).set n y = v.set n y := by
  refine Four.ext_get _ _ fun m => ?_
  simp only [Four.get_set]
  split <;> rfl

/-- The miswiring, whole, before its cause (R151, R154). -/
theorem miswire_eq (s : State) (n : Axis) :
    miswire s n =
      raiseCause
        { s with
          axes := if (s.link n).state = .up then s.axes.set n { s.axis n with stale := true } else s.axes
          links := s.links.set n { s.link n with state := .down } }
        n .miswired none := by
  unfold miswire
  split <;> rfl

/-- The acceptance, whole: the link UP, with its rating, the effective limit and the last-poll frame (R150, R152). -/
theorem welcome_eq (s : State) (n : Axis) (rating : Int) :
    welcome s n rating =
      { s with
        links :=
          s.links.set n
            { s.link n with
              state := .up, rating := some rating, limit := some (min (s.axis n).forceLimit rating), lastPoll := s.clock.f } } := by
  have own : (s.setLink n { s.link n with state := .up, rating := some rating, lastPoll := s.clock.f }).link n =
      { s.link n with state := .up, rating := some rating, lastPoll := s.clock.f } := by simp
  unfold welcome refreshLimit
  rw [own]
  exact congrArg (fun links => { s with links := links }) (four_set_set s.links n _ _)

theorem welcomeServed_eq (s : State) (n : Axis) (rating : Int) :
    welcomeServed (welcome s n rating) n =
      { state := welcome s n rating, code := .ok, kind := some 0x74#8
        body :=
          .welcome n .up s.clock.state s.clock.n (min (s.axis n).forceLimit rating) s.linkSettings.timeout
            s.linkSettings.maxSampleAge } := by
  have link : (welcome s n rating).link n =
      { s.link n with
        state := .up, rating := some rating, limit := some (min (s.axis n).forceLimit rating), lastPoll := s.clock.f } := by
    rw [welcome_eq]
    exact Four.get_set_self _ _ _
  unfold welcomeServed effectiveLimit
  rw [link]
  simp

section
variable {u : State} {n : Axis} {payload : List Byte}

theorem helloRequest_of_malformed (length : payload.length ≠ 3) : helloRequest n payload u = helloRefused u n .badParam := by
  have none : helloFields payload = none := by
    unfold helloFields
    split
    · simp at length
    · rfl
  simp only [helloRequest, none]

variable {a r1 r0 : Byte}

theorem helloRequest_eq :
    helloRequest n [a, r1, r0] u =
      if 4 ≤ a.toNat then helloRefused u n .badParam
      else if a.toNat ≠ n.val then helloRefused (miswire u n) n .miswired
      else if InRange 1000 20000 ((256 * r1.toNat + r0.toNat : Nat) : Int) then
        welcomeServed (welcome u n ((256 * r1.toNat + r0.toNat : Nat) : Int)) n
      else helloRefused u n .badParam := by
  simp only [helloRequest, helloFields, fieldOf_two]

end

/-- Settles O32: the layouts of the two answers, then the request's checks in their order. -/
theorem helloResult : Obligations.HelloResult := by
  refine ⟨fun a n link clock period => ?layout, fun s n dest payload => ?request⟩
  case layout =>
    intro first
    have first_eq : first = [byteOf n.val, byteOf link.value, byteOf clock.value, byteOf period] := by
      simp only [first, fieldBytes_one_nat]
      cases link <;> cases clock <;> rfl
    refine ⟨fun hello => ?_, fun limit timeout age welcome => ?_⟩
    · exact a.bytes_eq _ (by rw [hello, first_eq]; rfl)
    · exact a.bytes_eq _ (by rw [welcome, first_eq, fieldBytes_two, fieldBytes_one_nat, fieldBytes_one_nat]; rfl)
  case request =>
    generalize settled : settle s = w
    intro ready u refused
    have answers {t : State} {code : Code} (served : helloRequest n payload w = helloRefused t n code) : refused t code :=
      exec_hello settled ready served
    refine ⟨fun length => answers (helloRequest_of_malformed length), fun a r1 r0 bytes => ?fields⟩
    subst bytes
    intro rating
    refine ⟨fun large => ?large, fun small other => ?miswired, fun own outOfRange => ?badRating, fun own low high => ?accepted⟩
    case large => exact answers (helloRequest_eq.trans (if_pos large))
    case miswired =>
      intro v
      have same : miswire u n = raiseCause v n .miswired none := miswire_eq u n
      rw [← same]
      exact answers (helloRequest_eq.trans ((if_neg (by omega)).trans (if_pos other)))
    case badRating =>
      have := n.isLt
      exact answers (helloRequest_eq.trans ((if_neg (by omega)).trans ((if_neg (not_not.mpr own)).trans
        (if_neg (by simp only [rating] at outOfRange; simp only [InRange]; omega)))))
    case accepted =>
      have := n.isLt
      intro limit
      rw [← welcome_eq u n rating]
      refine exec_hello settled ready (helloRequest_eq.trans ((if_neg (by omega)).trans ((if_neg (not_not.mpr own)).trans
        ((if_pos (by simp only [rating] at low high; simp only [InRange]; omega)).trans (welcomeServed_eq w n _)))))

end Sys2Proof.Machine

/-!
PROOF. POLL: its layouts, its answers in their order (R153, R154, R156), a sample's class and delivery (R75, R76, R155).
-/
namespace Sys2Proof.Machine
open Sys2Proof

/-! ## A sample's class and delivery -/

section
variable {f maxAge sample : Nat} {last : Option Nat} {speed : Int}

theorem classify_accepted_iff :
    classify f last maxAge sample speed = .accepted ↔
      (sample ≤ f ∧ f - sample ≤ maxAge) ∧ (∀ l ∈ last, l < sample) ∧ -3000 ≤ speed ∧ speed ≤ 22000 := by
  unfold classify
  cases last with
  | none =>
    split_ifs <;> simp_all [InRange]
    omega
  | some l => split_ifs <;> simp_all [InRange] <;> omega

theorem classify_repeated_iff :
    classify f last maxAge sample speed = .repeated ↔ (sample ≤ f ∧ f - sample ≤ maxAge) ∧ last = some sample := by
  unfold classify
  cases last with
  | none => split_ifs <;> simp_all
  | some l => split_ifs <;> simp_all <;> omega

end

/-- The state an accepted sample is stored in, whole (R75, R119). -/
theorem storeAccepted_eq (s : State) (n : Axis) (v : Int) (sample : Nat) (temperature : Option Int) :
    storeAccepted s n v sample temperature =
      { s with
        axes :=
          s.axes.set n
            { s.axis n with
              measuredSpeed := some v, sampleFrame := some sample, stale := false
              acceleration := accelerationEstimate (s.axis n) v sample
              temperature := match temperature with
                | some d => some d
                | none => (s.axis n).temperature }
        loss :=
          match temperature with
          | some d =>
            { s.loss with bands := s.loss.bands.set n (evaluateBand s.loss.settings d (s.loss.bands.get n)) }
          | none => s.loss } := by
  cases temperature <;> rfl

/-- Settles O34: the class by its tests, then the three deliveries. -/
theorem deliveryEffects : Obligations.DeliveryEffects := by
  refine ⟨fun f last maxAge sample speed => ⟨classify_accepted_iff, classify_repeated_iff⟩, fun s n p temperature => ?_⟩
  intro told base stored
  refine ⟨rfl, rfl, ?accepted⟩
  case accepted =>
    have same : storeAccepted base n p.speed p.sampleFrame temperature = stored := storeAccepted_eq ..
    rw [← same]
    rfl

/-! ## The layouts -/

theorem demandBody_bytes (d : Demand) :
    (Body.demand d).bytes =
      some
        (fieldBytes 1 (d.axis.val : Int) ++ fieldBytes 1 (d.order.value : Int) ++ fieldBytes 1 (d.flags : Int) ++
          fieldBytes 2 d.order.amount) := by
  rw [fieldBytes_one_nat, fieldBytes_one_nat, fieldBytes_one_nat, fieldBytes_two]
  rfl

theorem Demand.flags_cast (d : Demand) :
    (d.flags : Int) = (if d.brakeOn = true then 1 else 0) + (if d.saturated = true then 2 else 0) := by
  unfold Demand.flags
  push_cast
  rfl

/-! ## The answers -/

section
variable {u : State} {n : Axis} {payload : List Byte} {p : PollFields}

theorem pollRequest_of_notUp (notUp : (u.link n).state ≠ .up) : pollRequest n payload u = rejoinServed u n := if_pos notUp

theorem pollRequest_of_malformed (up : (u.link n).state = .up) (malformed : pollFields payload = none) :
    pollRequest n payload u = refuse u .badParam .header := by
  unfold pollRequest
  rw [if_neg (not_not.mpr up), malformed]

theorem pollRequest_of_fields (up : (u.link n).state = .up) (fields : pollFields payload = some p) :
    pollRequest n payload u =
      if p.axis ≠ n then rejoinServed (miswire u n) n else demandServed (takeSample u n p) n := by
  unfold pollRequest
  rw [if_neg (not_not.mpr up), fields]

theorem miswire_link (s : State) (n : Axis) : ((miswire s n).link n).state = .down := by
  rw [miswire_eq]
  unfold State.link
  rw [(raiseCause_keeps _ n .miswired none).2.2.2.2.2.2.1]
  simp

/-- A well-formed POLL of the axis itself stores the sample, composes the demand and answers it (R156). -/
theorem exec_poll_sample {s : State} {dest : Axis} (settled : settle s = u) (ready : portReady u (.drive n) = true)
    (up : (u.link n).state = .up) (fields : pollFields payload = some p) (own : p.axis = n) :
    takePoll n dest payload s =
      answerDrive
        ((takeSample u n p).setAxis n
          { (takeSample u n p).axis n with saturated := (demandFor (takeSample u n p) n).saturated })
        n dest 0x72#8 .ok (.demand (demandFor (takeSample u n p) n)) :=
  takePoll_served settled ready ((pollRequest_of_fields up fields).trans (if_neg (not_not.mpr own)))

end

/-- Settles O33: the two layouts, then the request's answers in their order. -/
theorem pollResult : Obligations.PollResult := by
  refine ⟨fun payload p => ?fields, fun a d body => ?demand, fun s n dest payload => ?request⟩
  case fields =>
    rw [pollFields_eq_some]
    cases p.status <;> cases p.faultCode <;> rfl
  case demand =>
    have bytes := a.bytes_eq _ ((congrArg Body.bytes body).trans (demandBody_bytes d))
    rw [d.flags_cast] at bytes
    obtain ⟨axis, order, brakeOn, saturated⟩ := d
    cases order <;> exact bytes
  case request =>
    generalize settled : settle s = w
    intro ready u
    refine ⟨fun notUp => ?rejoin, fun up malformed => ?malformed, fun p up fields other => ?miswired,
      fun p up fields own => ?sample⟩
    case rejoin => exact exec_poll settled ready (pollRequest_of_notUp notUp)
    case malformed => exact exec_poll settled ready (pollRequest_of_malformed up malformed)
    case miswired =>
      have stale : (if (u.link n).state = .up then u.axes.set n { u.axis n with stale := true } else u.axes) =
          u.axes.set n { u.axis n with stale := true } := if_pos up
      have same := miswire_eq u n
      rw [stale] at same
      intro v
      have same : miswire u n = raiseCause v n .miswired none := same
      rw [← same]
      have down := miswire_link u n
      have served := (pollRequest_of_fields (n := n) up fields).trans (if_pos other)
      unfold rejoinServed at served
      rw [down] at served
      exact exec_poll settled ready served
    case sample => exact congrArg Host.Outcome.next (exec_poll_sample settled ready up fields own)

end Sys2Proof.Machine

/-!
PROOF. The sync update (R83, R84) and the POLLs that lock an axis or bring its slip to the persist count.
-/
namespace Sys2Proof.Machine
open Sys2Proof

/-! ## The sync update -/

section
variable {s : State} {n : Axis}

theorem natAbs_le_iff (e w : Int) : (e.natAbs : Int) ≤ w ↔ -w ≤ e ∧ e ≤ w := by omega

theorem syncUpdate_of_apart (state : (s.axis n).sync = .uncoupled ∨ (s.axis n).sync = .faulted) : syncUpdate s n = s := by
  obtain state | state := state <;> simp only [syncUpdate, state]

theorem syncUpdate_acquiring (state : (s.axis n).sync = .acquiring) :
    syncUpdate s n =
      if ((ownSpeed s n - reference s n).natAbs : Int) ≤ s.sync.lockWindow then
        s.setAxis n
          { s.axis n with
            speedError := ownSpeed s n - reference s n, lockCount := min 255 ((s.axis n).lockCount + 1)
            sync := if s.sync.lockConfirm ≤ min 255 ((s.axis n).lockCount + 1) then .locked else .acquiring }
      else s.setAxis n { s.axis n with speedError := ownSpeed s n - reference s n, lockCount := 0 } := by
  simp only [syncUpdate, state]

/-- The state a slip starts in (R84). -/
def slipStarted (s : State) (n : Axis) : State :=
  openSlip (s.setAxis n { s.axis n with speedError := ownSpeed s n - reference s n, sync := .slipping, slipCount := 1 }) n

/-- The state a slip goes on in (R83). -/
def slipCounted (s : State) (n : Axis) : State :=
  s.setAxis n
    { s.axis n with
      speedError := ownSpeed s n - reference s n, slipCount := min 255 ((s.axis n).slipCount + 1) }

theorem syncUpdate_locked (state : (s.axis n).sync = .locked) :
    syncUpdate s n =
      if ((ownSpeed s n - reference s n).natAbs : Int) ≤ s.sync.slipLimit then
        s.setAxis n { s.axis n with speedError := ownSpeed s n - reference s n }
      else if s.sync.slipPersist ≤ 1 then raiseCause (slipStarted s n) n .slip none else slipStarted s n := by
  simp only [syncUpdate, state, slipStarted]

theorem syncUpdate_slipping (state : (s.axis n).sync = .slipping) :
    syncUpdate s n =
      if s.sync.slipLimit < ((ownSpeed s n - reference s n).natAbs : Int) then
        if s.sync.slipPersist ≤ min 255 ((s.axis n).slipCount + 1) then raiseCause (slipCounted s n) n .slip none
        else slipCounted s n
      else if ((ownSpeed s n - reference s n).natAbs : Int) ≤ s.sync.lockWindow then
        closeSlip
          (s.setAxis n { s.axis n with speedError := ownSpeed s n - reference s n, sync := .locked, slipCount := 0 }) n
      else s.setAxis n { s.axis n with speedError := ownSpeed s n - reference s n } := by
  simp only [syncUpdate, state, slipCounted]

end

/-- Settles O35: by the sync state, with the error's size read as its two bounds. -/
theorem syncUpdateResult : Obligations.SyncUpdate := by
  intro s n a e put lockCount slipCount within beyond
  have within_iff : ((ownSpeed s n - reference s n).natAbs : Int) ≤ s.sync.lockWindow ↔ within := natAbs_le_iff e _
  have beyond_iff : s.sync.slipLimit < ((ownSpeed s n - reference s n).natAbs : Int) ↔ beyond := by
    change s.sync.slipLimit < (e.natAbs : Int) ↔ e < -s.sync.slipLimit ∨ s.sync.slipLimit < e
    omega
  refine ⟨syncUpdate_of_apart, fun state => ⟨fun h => ?_, fun h => ?_⟩, fun state => ⟨fun h => ?_, fun h => ?_⟩,
    fun state => ⟨fun h => ?_, fun h k => ?_, fun h k => ?_⟩⟩
  · exact (syncUpdate_acquiring state).trans (if_pos (within_iff.mpr h))
  · exact (syncUpdate_acquiring state).trans (if_neg (mt within_iff.mp h))
  · exact (syncUpdate_locked state).trans (if_pos (not_lt.mp (mt beyond_iff.mp h)))
  · exact (syncUpdate_locked state).trans (if_neg (not_le.mpr (beyond_iff.mpr h)))
  · exact (syncUpdate_slipping state).trans (if_pos (beyond_iff.mpr h))
  · exact (syncUpdate_slipping state).trans ((if_neg (mt beyond_iff.mp h)).trans (if_pos (within_iff.mpr k)))
  · exact (syncUpdate_slipping state).trans ((if_neg (mt beyond_iff.mp h)).trans (if_neg (mt within_iff.mp k)))

/-! ## The accepted sample of a POLL -/

section
variable {u : State} {n : Axis} {p : PollFields}

/-- The state in which the sync update of an accepted sample runs, where the status is not FAULT (R76). -/
def sampleStored (u : State) (n : Axis) (p : PollFields) : State :=
  storeAccepted
    { u with
      axes := u.axes.set n { u.axis n with driveStatus := some p.status }
      links := u.links.set n { u.link n with lastPoll := u.clock.f, lastAccepted := some p.sampleFrame } }
    n p.speed p.sampleFrame (p.temperature.filter fun d => decide (-40 ≤ d ∧ d ≤ 125))

theorem takeSample_accepted (accepted : sampleClass u n p = .accepted) (noFault : p.status ≠ .fault) :
    takeSample u n p = syncUpdate (sampleStored u n p) n := by
  unfold takeSample deliver
  simp only [accepted, if_neg noFault]
  rfl

theorem sampleStored_keeps :
    (sampleStored u n p).sync = u.sync ∧ (sampleStored u n p).latches = u.latches ∧
      (sampleStored u n p).clock = u.clock := by
  simp [sampleStored]

theorem sampleStored_axis :
    ((sampleStored u n p).axis n).sync = (u.axis n).sync ∧ ((sampleStored u n p).axis n).lockCount = (u.axis n).lockCount ∧
      ((sampleStored u n p).axis n).slipCount = (u.axis n).slipCount ∧
      ((sampleStored u n p).axis n).measuredSpeed = some p.speed := by
  unfold sampleStored
  rw [storeAccepted_eq]
  simp [State.axis]

theorem sampleStored_error :
    ownSpeed (sampleStored u n p) n - reference (sampleStored u n p) n = p.speed - reference (sampleStored u n p) n := by
  unfold ownSpeed
  rw [sampleStored_axis.2.2.2]
  rfl

end

/-! ## LOCK_ACQUIRED and SLIP_PERSIST -/

section
variable {s t u : State} {n dest : Axis} {payload : List Byte}

theorem exec_lockAcquired_of (event : lockAcquired n (settle s) (takePoll n dest payload s) = true) :
    exec (.lockAcquired n dest payload) s = .next (takePoll n dest payload s) :=
  congrArg Host.Outcome.next (if_pos event)

theorem exec_lockAcquired_of_not (none : ¬ lockAcquired n (settle s) (takePoll n dest payload s) = true) :
    exec (.lockAcquired n dest payload) s = .next s :=
  congrArg Host.Outcome.next (if_neg none)

theorem exec_slipPersist_of (event : slipPersisted n (settle s) (takePoll n dest payload s) = true) :
    exec (.slipPersist n dest payload) s = .next (takePoll n dest payload s) :=
  congrArg Host.Outcome.next (if_pos event)

theorem exec_slipPersist_of_not (none : ¬ slipPersisted n (settle s) (takePoll n dest payload s) = true) :
    exec (.slipPersist n dest payload) s = .next s :=
  congrArg Host.Outcome.next (if_neg none)

theorem lockAcquired_iff : lockAcquired n s t = true ↔ (s.axis n).sync = .acquiring ∧ (t.axis n).sync = .locked := by
  simp [lockAcquired]

theorem slipPersisted_iff :
    slipPersisted n s t = true ↔
      ((s.axis n).sync = .locked ∨ (s.axis n).sync = .slipping) ∧ (t.axis n).sync = .faulted ∧
        (s.latch n).state = .clear ∧ (t.latch n).firstCause = some .slip := by
  simp [slipPersisted]

/-- The answer of a POLL changes no more of the axis than its saturated flag, and no latch (R145, R156). -/
theorem answered_axis (w : State) (saturated : Bool) (kind : Byte) (code : Code) (body : Body) :
    (answerDrive (w.setAxis n { w.axis n with saturated := saturated }) n dest kind code body).axis n =
      { w.axis n with saturated := saturated } := by
  simp [answerDrive, State.axis]

theorem answered_latch (w : State) (saturated : Bool) (kind : Byte) (code : Code) (body : Body) :
    (answerDrive (w.setAxis n { w.axis n with saturated := saturated }) n dest kind code body).latch n = w.latch n := by
  simp [answerDrive, State.latch]

/-- A slip at a clear latch: the axis has left its group faulted, and the latch keeps the slip as its first cause. -/
theorem raiseCause_slip (clear : (s.latch n).state = .clear) :
    ((raiseCause s n .slip none).axis n).sync = .faulted ∧ ((raiseCause s n .slip none).axis n).group = none ∧
      ((raiseCause s n .slip none).latch n).state = .set ∧
      ((raiseCause s n .slip none).latch n).firstCause = some .slip ∧
      ((raiseCause s n .slip none).latch n).faultFrame = some s.clock.f := by
  have left : (raiseCause s n .slip none).axis n = (s.axis n).uncouple .faulted := by simp [raiseCause_axis, clear]
  rw [left, raiseCause_clear _ _ _ _ clear, State.latch_congr n (faultReactions_latches _ _ _), State.latch_setLatch,
    if_pos rfl]
  exact ⟨rfl, rfl, rfl, rfl, rfl⟩

/-- A sync update that brings the slip count to C_slip hands the cause SLIP to the latch (R83). -/
theorem syncUpdate_of_persisting
    (event : (u.axis n).sync = .locked ∧ u.sync.slipPersist ≤ 1 ∨
      (u.axis n).sync = .slipping ∧ u.sync.slipPersist ≤ min 255 ((u.axis n).slipCount + 1))
    (outside : u.sync.slipLimit < ((ownSpeed u n - reference u n).natAbs : Int)) :
    ∃ w, syncUpdate u n = raiseCause w n .slip none ∧ w.latches = u.latches ∧ w.clock = u.clock := by
  obtain ⟨state, persist⟩ | ⟨state, persist⟩ := event
  case inl =>
    refine ⟨slipStarted u n, ?_, by simp [slipStarted], by simp [slipStarted]⟩
    rw [syncUpdate_locked state, if_neg (not_le.mpr outside), if_pos persist]
  case inr =>
    refine ⟨slipCounted u n, ?_, rfl, rfl⟩
    rw [syncUpdate_slipping state, if_pos outside, if_pos persist]

end

/-- Settles O36: what the sync update of the stored sample does, read off the state the POLL leaves. -/
theorem pollEvents : Obligations.PollEvents := by
  intro s n dest payload p
  generalize settled : settle s = w
  intro ready u up fields own noFault accepted a stored e
  have poll : exec (.poll n dest payload) s = .next (takePoll n dest payload s) := rfl
  have taken := exec_poll_sample (dest := dest) settled ready up fields own
  rw [takeSample_accepted accepted noFault] at taken
  have same : stored = sampleStored u n p := rfl
  clear_value stored
  subst same
  have error : ownSpeed (sampleStored u n p) n - reference (sampleStored u n p) n = e := sampleStored_error
  obtain ⟨sync, latches, clock⟩ := sampleStored_keeps (u := u) (n := n) (p := p)
  obtain ⟨state, lockCount, slipCount, -⟩ := sampleStored_axis (u := u) (n := n) (p := p)
  refine ⟨fun acquiring low high confirm => ?lock, fun event outside clear => ?slip, fun apart => ⟨?_, ?_⟩⟩
  case lock =>
    have inWindow : ((ownSpeed (sampleStored u n p) n - reference (sampleStored u n p) n).natAbs : Int) ≤ (sampleStored u n p).sync.lockWindow := by
      rw [error, natAbs_le_iff]
      exact sync ▸ ⟨low, high⟩
    have update := (syncUpdate_acquiring (state.trans acquiring)).trans (if_pos inWindow)
    rw [sync, lockCount, if_pos confirm] at update
    have locked : ((syncUpdate (sampleStored u n p) n).axis n).sync = .locked ∧ ((syncUpdate (sampleStored u n p) n).axis n).speedError = e ∧
        ((syncUpdate (sampleStored u n p) n).axis n).lockCount = min 255 (a.lockCount + 1) := by
      rw [update, State.axis_setAxis, if_pos rfl]
      exact ⟨rfl, error, rfl⟩
    have after : ((takePoll n dest payload s).axis n).sync = .locked ∧ ((takePoll n dest payload s).axis n).speedError = e ∧
        ((takePoll n dest payload s).axis n).lockCount = min 255 (a.lockCount + 1) := by
      rw [taken, answered_axis]
      exact locked
    refine ⟨_, exec_lockAcquired_of (lockAcquired_iff.mpr ⟨?_, after.1⟩), poll, after⟩
    rw [settled]
    exact acquiring
  case slip =>
    have outside : (sampleStored u n p).sync.slipLimit < ((ownSpeed (sampleStored u n p) n - reference (sampleStored u n p) n).natAbs : Int) := by
      rw [error, sync]
      omega
    obtain ⟨v, update, sameLatches, sameClock⟩ := syncUpdate_of_persisting
      (by rw [state, sync, slipCount]; exact event) outside
    have clearThere : (v.latch n).state = .clear := by
      rw [State.latch_congr n (sameLatches.trans latches)]
      exact clear
    obtain ⟨sync, group, set, cause, frame⟩ := raiseCause_slip clearThere
    rw [sameClock.trans clock] at frame
    rw [update] at taken
    have latch : (takePoll n dest payload s).latch n = (raiseCause v n .slip none).latch n := by
      rw [taken, answered_latch]
    have faulted : ((takePoll n dest payload s).axis n).sync = .faulted := by
      rw [taken, answered_axis]
      exact sync
    have alone : ((takePoll n dest payload s).axis n).group = none := by
      rw [taken, answered_axis]
      exact group
    refine ⟨_, exec_slipPersist_of (slipPersisted_iff.mpr ?_), poll, faulted, alone,
      by rw [latch]; exact set, by rw [latch]; exact cause, by rw [latch]; exact frame⟩
    rw [settled, latch]
    exact ⟨event.imp And.left And.left, faulted, clear, cause⟩
  all_goals
    have state : (w.axis n).sync = .uncoupled ∨ (w.axis n).sync = .faulted := apart
  · refine exec_lockAcquired_of_not fun event => ?_
    rw [lockAcquired_iff, settled] at event
    obtain state | state := state <;> simp [state] at event
  · refine exec_slipPersist_of_not fun event => ?_
    rw [slipPersisted_iff, settled] at event
    obtain state | state := state <;> simp [state] at event

end Sys2Proof.Machine

/-!
PROOF. Every property of the state holds after reset (R13).
-/
namespace Sys2Proof.Machine
open Sys2Proof

/-- At reset no run is active, whatever SAFE-STOP reads (R141, R178). -/
theorem atReset_safeStopSound (asserted : Bool) : SafeStopSound (State.atReset asserted) := fun _ => .inl rfl

/-- The properties of the state at all times, in the order of the statements that keep them. -/
theorem atReset_sound (asserted : Bool) :
    let s := State.atReset asserted
    ClockSound s ∧ QueueSound s ∧ ScheduleSound s ∧ SafeStopSound s ∧ HoldsSound s ∧ RecordSound s ∧ CouplingSound s ∧
    FaultsAgree s ∧ LatchesSound s ∧ DirectivesSound s ∧ BanksSound s :=
  ⟨atReset_clockSound asserted, atReset_queueSound asserted, atReset_scheduleSound asserted, atReset_safeStopSound asserted,
    atReset_holdsSound asserted, atReset_recordSound rfl rfl, atReset_couplingSound asserted, atReset_faultsAgree asserted,
    atReset_latchesSound asserted, atReset_directivesSound asserted, atReset_banksSound asserted⟩

/-- Settles O54: the model's own reset is the state after reset with SAFE-STOP asserted. -/
theorem propertiesAtReset : Obligations.PropertiesAtReset := by
  intro asserted s mem
  simp only [List.mem_cons, List.not_mem_nil, or_false] at mem
  obtain rfl | rfl := mem
  · exact atReset_sound asserted
  · exact atReset_sound true

end Sys2Proof.Machine

/-!
PROOF. The frame boundary: the reactions taken one by one, and by `settle` (R6, R8, R25); the advance of F (R3) and the
halt at the frame limit (R7, R11, R56).
-/
namespace Sys2Proof.Machine
open Sys2Proof

/-! ## The reactions taken -/

theorem takeReaction_eq (s : State) (r : Reaction) :
    takeReaction s r =
      if r = .trace then takeOwed (takeOwed s .schedule) .trace else if r = .limit then settle s else takeOwed s r := by
  cases r <;> rfl

theorem takeReaction_of_inner {s : State} {r : Reaction} (notTrace : r ≠ .trace) (notLimit : r ≠ .limit) :
    takeReaction s r = takeOwed s r := by
  rw [takeReaction_eq, if_neg notTrace, if_neg notLimit]

/-- A row of the table that takes an owed reaction where it brings its event about: it takes the reaction, or nothing. -/
theorem eventRow_cases {row : Instr} {s t : State} {r : Reaction} {happens : Bool}
    (isRow : exec row s = .next (takeEvent r happens s)) (taken : takeReaction s r = t) :
    exec row s = .next s ∨ exec row s = .next t := by
  rw [isRow, ← taken]
  exact (takeEvent_or r happens s).imp (congrArg Host.Outcome.next) (congrArg Host.Outcome.next)

theorem takeReaction_funext :
    takeReaction = fun t r =>
      if r = .trace then takeOwed (takeOwed t .schedule) .trace else if r = .limit then settle t else takeOwed t r :=
  funext fun t => funext fun r => takeReaction_eq t r

theorem exec_frameBoundary (order left : List Reaction) (s : State) :
    exec (.frameBoundary order left) s = .next (boundaryStep order left s) := rfl

/-- Settles O4: a boundary through the state that the same boundary leaves with every reaction owed. -/
theorem settleTakesWhatIsOwed : Obligations.SettleTakesWhatIsOwed := by
  intro s all
  have inOrder : reactions = all := rfl
  have settled : settle s = all.foldl takeOwed s := by
    unfold settle
    rw [inOrder]
  refine ⟨fun r => rfl, settled, settle_of_owed_nil s, settle_owed s, fun order left => ?boundary, fun n row r mem => ?rows,
    eventRow_cases (r := .trace) rfl rfl, eventRow_cases (r := .limit) rfl (takeReaction_eq s .limit)⟩
  case boundary =>
    intro stays taken
    have step : taken = takeReaction := takeReaction_funext.symm
    have leaves : stays = leftOwed left := (funext fun r => leftOwed_eq left r).symm
    rw [step, leaves]
    refine ⟨boundaryStep [] reactions s, exec_frameBoundary [] reactions s, ?_, ?_, ?_⟩
    · rw [exec_frameBoundary, boundaryStep_nil, List.foldl_nil]
    · rw [exec_frameBoundary, boundaryStep_nil]
    · rw [exec_frameBoundary, boundaryStep_eq, ← inOrder]
  case rows =>
    simp only [List.mem_cons, Prod.mk.injEq, List.not_mem_nil, or_false] at mem
    have inner : takeReaction s r = takeOwed s r := by
      refine takeReaction_of_inner ?_ ?_ <;> · rintro rfl; simp at mem
    rcases mem with ⟨rfl, rfl⟩ | ⟨rfl, rfl⟩ | ⟨rfl, rfl⟩ | ⟨rfl, rfl⟩ | ⟨rfl, rfl⟩ | ⟨rfl, rfl⟩ | ⟨rfl, rfl⟩ | ⟨rfl, rfl⟩ |
      ⟨rfl, rfl⟩ <;> exact eventRow_cases rfl inner

/-! ## The halt at the frame limit -/

/-- Every reaction but the clock's own, in the model's order. -/
def blockReactions : List Reaction := [.schedule, .directives, .holds, .link 0, .link 1, .link 2, .link 3, .trace]

/-- The halt is the last of the reactions (R7). -/
theorem settle_eq_limit (s : State) : settle s = takeOwed (blockReactions.foldl takeOwed s) .limit := by
  have order : reactions = blockReactions ++ [.limit] := rfl
  unfold settle
  rw [order, List.foldl_append, List.foldl_cons, List.foldl_nil]

section
variable {s : State}

/-- At the limit the clock halts, and with a run active the run is aborted (R7, R56). -/
theorem limitReaction_of_limit (atLimit : s.clock.f = Config.frameLimit) :
    limitReaction s =
      if s.runActive = true then enterAborted (haltClock s (s.clock.n + 1)) .frameLimit
      else haltClock s (s.clock.n + 1) := if_pos atLimit

/-- The clock stands halted at the frame limit, with no run active. -/
structure HaltedAtLimit (s : State) : Prop where
  state : s.clock.state = .halted
  position : s.clock.position = none
  inactive : s.runActive = false

theorem limitReaction_halted (atLimit : s.clock.f = Config.frameLimit) : HaltedAtLimit (limitReaction s) := by
  rw [limitReaction_of_limit atLimit]
  have clock := (enterAborted_keeps (haltClock s (s.clock.n + 1)) .frameLimit).2.1
  split
  case isTrue => exact ⟨by rw [clock]; rfl, by rw [clock]; rfl, enterAborted_inactive _ _⟩
  case isFalse inactive => exact ⟨rfl, rfl, Bool.eq_false_iff.mpr inactive⟩

theorem foldl_takeOwed_clock_f (xs : List Reaction) (s : State) : (xs.foldl takeOwed s).clock.f = s.clock.f :=
  foldl_keeps (fun t => t.clock.f) takeOwed takeOwed_clock_f xs s

theorem settle_clock_f (s : State) : (settle s).clock.f = s.clock.f := by
  unfold settle
  exact foldl_takeOwed_clock_f reactions s

/-- With the halt owed at the frame limit, a boundary taken in full ends halted. -/
theorem settle_halted (owed : Reaction.limit ∈ s.boundary.owed) (atLimit : s.clock.f = Config.frameLimit) :
    HaltedAtLimit (settle s) := by
  have stillOwed : Reaction.limit ∈ (blockReactions.foldl takeOwed s).boundary.owed := by
    rw [foldl_takeOwed_owed, List.mem_filter]
    exact ⟨owed, rfl⟩
  have sameFrame := foldl_takeOwed_clock_f blockReactions s
  rw [settle_eq_limit]
  generalize blockReactions.foldl takeOwed s = t at stillOwed sameFrame
  rw [takeOwed_of_mem stillOwed]
  exact limitReaction_halted (sameFrame.trans atLimit)

theorem exec_frameLimit_of_limit (owed : Reaction.limit ∈ s.boundary.owed) (atLimit : s.clock.f = Config.frameLimit) :
    exec .frameLimit s = .next (settle s) :=
  congrArg Host.Outcome.next (takeEvent_of_happens owed (decide_eq_true atLimit))

/-- With the halt alone owed, a boundary taken in full is that halt. -/
theorem settle_of_limit_alone (owed : s.boundary.owed = [.limit]) :
    settle s = limitReaction { s with boundary := { s.boundary with owed := [] } } := by
  have others : blockReactions.foldl takeOwed s = s := by
    refine foldl_takeOwed_of_disjoint _ _ fun r mem => ?_
    rw [owed, List.mem_singleton]
    rintro rfl
    exact absurd mem (by decide)
  rw [settle_eq_limit, others, takeOwed_of_mem (by simp [owed]), owed]
  rfl

end

/-- Settles O53: the halt comes last of what is owed; alone, it is the whole effect. -/
theorem frameLimitResult : Obligations.FrameLimitResult := by
  intro s owed atLimit
  have taken := exec_frameLimit_of_limit owed atLimit
  refine ⟨?_, fun alone => ?_⟩
  · obtain ⟨state, position, inactive⟩ := settle_halted owed atLimit
    exact ⟨settle s, taken, settle_owed s, settle_clock_f s, state, position, inactive⟩
  · intro halted
    have halt : haltClock { s with boundary := { s.boundary with owed := [] } } (s.clock.n + 1) = halted := haltClock_eq _ _
    have reaction := limitReaction_of_limit (s := { s with boundary := { s.boundary with owed := [] } }) atLimit
    rw [taken, settle_of_limit_alone alone, reaction, halt]
    rfl

end Sys2Proof.Machine

/-!
PROOF. A frame boundary as a whole (R3, R7, R9, R47): what it produces with every reaction left, and what its reactions leave
of the clock.
-/
namespace Sys2Proof.Machine
open Sys2Proof

/-! ## The clock under the reactions -/

section
variable {P : State → Prop} (keeps : ∀ s r, P s → P (takeOwed s r))
include keeps

theorem takeReaction_property (s : State) (r : Reaction) (before : P s) : P (takeReaction s r) := by
  rw [takeReaction_eq]
  split
  · exact keeps _ _ (keeps _ _ before)
  · split
    · exact foldl_property P takeOwed keeps reactions s before
    · exact keeps _ _ before

end

/-- The clock after a boundary that brought it to F = f, short of the halt at the limit. -/
structure FrameBegun (f n : Nat) (s : State) : Prop where
  frame : s.clock.f = f
  period : s.clock.n = n
  mark : s.clock.frameMark = true
  runs : f < Config.frameLimit → s.clock.state = .running ∧ s.clock.position = some 0

theorem FrameBegun.of_clock {f n : Nat} {s t : State} (begun : FrameBegun f n s) (same : t.clock = s.clock) :
    FrameBegun f n t := by
  obtain ⟨frame, period, mark, runs⟩ := begun
  exact ⟨same ▸ frame, same ▸ period, same ▸ mark, same ▸ runs⟩

theorem limitReaction_frameBegun {f n : Nat} {s : State} (begun : FrameBegun f n s) : FrameBegun f n (limitReaction s) := by
  have halted (atLimit : s.clock.f = Config.frameLimit) : FrameBegun f n (haltClock s (s.clock.n + 1)) :=
    ⟨begun.frame, begun.period, begun.mark, fun below => absurd (begun.frame ▸ atLimit) (Nat.ne_of_lt below)⟩
  obtain same | ⟨atLimit, -, same⟩ | ⟨atLimit, -, same⟩ := limitReaction_cases s
  · rw [same]
    exact begun
  · rw [same]
    exact (halted atLimit).of_clock (enterAborted_keeps _ _).2.1
  · rw [same]
    exact halted atLimit

theorem react_frameBegun {f n : Nat} (r : Reaction) {s : State} (begun : FrameBegun f n s) :
    FrameBegun f n (react r s) := by
  cases r with
  | schedule =>
    obtain ⟨lines, clock⟩ := scheduleReaction_clock s
    obtain ⟨frame, period, mark, runs⟩ := begun
    change FrameBegun f n (scheduleReaction s)
    exact ⟨by rw [clock]; exact frame, by rw [clock]; exact period, by rw [clock]; exact mark,
      by rw [clock]; exact runs⟩
  | limit => exact limitReaction_frameBegun begun
  | _ => exact begun.of_clock (by simp [react])

theorem takeOwed_frameBegun {f n : Nat} (s : State) (r : Reaction) (begun : FrameBegun f n s) :
    FrameBegun f n (takeOwed s r) := by
  unfold takeOwed
  split
  · exact react_frameBegun r (begun.of_clock rfl)
  · exact begun

/-! ## The halt, owed or taken -/

/-- At the frame limit, the halt is owed, or a boundary taken in full has halted the clock. -/
def LimitDue (s : State) : Prop :=
  Reaction.limit ∈ s.boundary.owed ∧ s.clock.f = Config.frameLimit ∨ s.boundary.owed = [] ∧ HaltedAtLimit s

theorem LimitDue.settle {s : State} (due : LimitDue s) : HaltedAtLimit (settle s) := by
  obtain ⟨owed, atLimit⟩ | ⟨taken, halted⟩ := due
  · exact settle_halted owed atLimit
  · rw [settle_of_owed_nil s taken]
    exact halted

theorem takeOwed_limit_owed {s : State} {r : Reaction} (other : r ≠ .limit) (owed : Reaction.limit ∈ s.boundary.owed) :
    Reaction.limit ∈ (takeOwed s r).boundary.owed := by
  simp [owed, other.symm]

theorem takeReaction_limitDue (s : State) (r : Reaction) (due : LimitDue s) : LimitDue (takeReaction s r) := by
  obtain ⟨owed, atLimit⟩ | ⟨taken, halted⟩ := due
  case inr =>
    rw [takeReaction_of_owed_nil s r taken]
    exact .inr ⟨taken, halted⟩
  case inl =>
    rw [takeReaction_eq]
    split
    · refine .inl ⟨takeOwed_limit_owed (by decide) (takeOwed_limit_owed (by decide) owed), ?_⟩
      rw [takeOwed_clock_f, takeOwed_clock_f]
      exact atLimit
    · split
      case isTrue => exact .inr ⟨settle_owed s, settle_halted owed atLimit⟩
      case isFalse other => exact .inl ⟨takeOwed_limit_owed other owed, (takeOwed_clock_f s r).trans atLimit⟩

/-! ## The boundary -/

section
variable {s : State} {order left : List Reaction}

theorem boundaryStep_of_not_occurs (none : ¬ boundaryOccurs (settle s) = true) : boundaryStep order left s = settle s := by
  unfold boundaryStep
  exact if_neg none

theorem boundaryStep_of_occurs (occurs : boundaryOccurs (settle s) = true) :
    boundaryStep order left s =
      ((order ++ reactions).filter (!leftOwed left ·)).foldl takeReaction (beginBoundary (settle s)) := by
  unfold boundaryStep
  exact if_pos occurs

/-- With every reaction left, the boundary is produced and nothing reacts. -/
theorem boundaryStep_allLeft (occurs : boundaryOccurs (settle s) = true) :
    boundaryStep [] reactions s = beginBoundary (settle s) := by
  have stays : ∀ r, leftOwed reactions r = true := fun r => by simp [leftOwed, mem_reactions]
  rw [boundaryStep_of_occurs occurs]
  simp [stays]

theorem beginBoundary_frameBegun (occurs : boundaryOccurs s = true) :
    FrameBegun (s.clock.f + 1) s.clock.n (beginBoundary s) :=
  ⟨rfl, rfl, rfl, fun _ => ⟨((boundaryOccurs_iff s).mp occurs).1, rfl⟩⟩

theorem boundaryStep_frameBegun (occurs : boundaryOccurs (settle s) = true) :
    FrameBegun ((settle s).clock.f + 1) (settle s).clock.n (boundaryStep order left s) := by
  rw [boundaryStep_of_occurs occurs]
  exact foldl_property _ takeReaction (takeReaction_property takeOwed_frameBegun) _ _ (beginBoundary_frameBegun occurs)

theorem boundaryStep_halted (occurs : boundaryOccurs (settle s) = true)
    (last : (settle s).clock.f + 1 = Config.frameLimit) : HaltedAtLimit (boundaryStep order [] s) := by
  rw [boundaryStep_nil, boundaryStep_allLeft occurs]
  exact (foldl_property LimitDue takeReaction takeReaction_limitDue order _
    (.inl ⟨mem_reactions .limit, last⟩)).settle

theorem boundaryStep_nil_owed : (boundaryStep order [] s).boundary.owed = [] := by
  rw [boundaryStep_nil]
  exact settle_owed _

/-- The boundary, produced: F and the run frame advance, a new frame begins, every block owes its reaction (R3, R9, R47). -/
theorem beginBoundary_eq (s : State) :
    beginBoundary s =
      { s with
        clock := { s.clock with f := s.clock.f + 1, position := some 0, frameMark := true }
        boundary := { owed := reactions, foundActive := s.runActive }
        schedule :=
          { s.schedule with
            runFrame :=
              match s.schedule.startFrame, s.schedule.state with
              | some f0, .running | some f0, .dwell | some f0, .stopping => s.clock.f + 1 - f0
              | _, _ => s.schedule.runFrame } } := by
  unfold beginBoundary
  cases s.schedule.startFrame with
  | none => cases s.schedule.state <;> rfl
  | some f0 => cases s.schedule.state <;> rfl

end

/-- Settles O45: the boundary produced, then what its reactions leave of the clock. -/
theorem boundaryAdvance : Obligations.BoundaryAdvance := by
  intro s
  have begin_eq (order left : List Reaction) := exec_frameBoundary order left s
  have allLeft := boundaryStep_allLeft (s := s)
  have frameBegun (order left : List Reaction) := boundaryStep_frameBegun (s := s) (order := order) (left := left)
  have halted (order : List Reaction) := boundaryStep_halted (s := s) (order := order)
  have quiet (order left : List Reaction) := boundaryStep_of_not_occurs (s := s) (order := order) (left := left)
  generalize settle s = w at allLeft frameBegun halted quiet
  intro u occurs all
  have occurs_iff : boundaryOccurs w = true ↔ occurs := boundaryOccurs_iff w
  refine ⟨fun none order left => ?quiet, fun occurs => ⟨?produced, fun order left => ?taken⟩⟩
  case quiet => rw [begin_eq, quiet order left (mt occurs_iff.mp none)]
  case produced =>
    have inOrder : reactions = all := rfl
    rw [← inOrder, begin_eq, allLeft (occurs_iff.mpr occurs)]
    exact congrArg Host.Outcome.next (beginBoundary_eq w)
  case taken =>
    obtain ⟨frame, period, mark, runs⟩ := frameBegun order left (occurs_iff.mpr occurs)
    refine ⟨_, begin_eq order left, frame, period, mark, fun none => ?_, runs, fun last none => ?_⟩
    · subst none
      exact boundaryStep_nil_owed
    · subst none
      obtain ⟨state, position, inactive⟩ := halted order (occurs_iff.mpr occurs) last
      exact ⟨state, position, inactive⟩

end Sys2Proof.Machine

/-!
PROOF. The Trace Monitor's reaction and TRACE_DEVIATION (R188).
-/
namespace Sys2Proof.Machine
open Sys2Proof

/-! ## The comparison's three outcomes -/

/-- The state with the deviation counter at k. -/
def State.withDeviation (s : State) (k : Nat) : State := { s with trace := { s.trace with deviation := k } }

section
variable {s : State}

theorem traceReaction_of_none (none : traceOutside s = none) : traceReaction s = s := by
  simp only [traceReaction, none]

theorem deviationStarts_iff :
    deviationStarts s = true ↔
      traceOutside s = some true ∧ s.trace.deviation < s.trace.allowed ∧ s.trace.deviation + 1 = s.trace.allowed := by
  simp [deviationStarts, and_assoc]

theorem traceReaction_of_outside (outside : traceOutside s = some true) :
    traceReaction s =
      if s.trace.deviation < s.trace.allowed ∧ s.trace.deviation + 1 = s.trace.allowed then
        openTrace (s.withDeviation s.trace.allowed)
      else s.withDeviation (min s.trace.allowed (s.trace.deviation + 1)) := by
  have starts := deviationStarts_iff (s := s)
  simp only [outside, true_and] at starts
  simp only [traceReaction, outside, starts]
  split
  case isTrue reached => rw [reached.2, Nat.min_self]; rfl
  case isFalse => rfl

theorem traceReaction_of_within (within : traceOutside s = some false) :
    traceReaction s =
      if s.trace.allowed ≤ s.trace.deviation then closeTrace (s.withDeviation 0) else s.withDeviation 0 := by
  simp only [traceReaction, within]
  rfl

end

/-! ## TRACE_DEVIATION -/

section
variable {s : State}

/-- The state in which the monitor reacts: the engine's reaction taken, its own no longer owed. -/
def monitorTurn (s : State) : State :=
  { takeOwed s .schedule with
    boundary :=
      { (takeOwed s .schedule).boundary with owed := (takeOwed s .schedule).boundary.owed.filter (· ≠ .trace) } }

theorem takeOwed_trace (owed : Reaction.trace ∈ s.boundary.owed) :
    takeOwed (takeOwed s .schedule) .trace = traceReaction (monitorTurn s) :=
  takeOwed_of_mem (by simp [owed])

theorem exec_traceDeviation_of_not (none : ¬ deviationStarts (monitorTurn s) = true) :
    exec .traceDeviation s = .next s :=
  congrArg Host.Outcome.next (takeEvent_of_not (.inr (Bool.eq_false_iff.mpr none)))

theorem exec_traceDeviation_of_starts (owed : Reaction.trace ∈ s.boundary.owed)
    (starts : deviationStarts (monitorTurn s) = true) :
    exec .traceDeviation s = .next (traceReaction (monitorTurn s)) :=
  congrArg Host.Outcome.next ((takeEvent_of_happens owed starts).trans (takeOwed_trace owed))

end

/-- Settles O52: by what the comparison finds, and by the deviation counter against the allowed deviation. -/
theorem traceDeviationResult : Obligations.TraceDeviationResult := by
  intro s owed w members mean compared outside counted
  have taken : takeOwed w .trace = traceReaction (monitorTurn s) := takeOwed_trace owed
  have comparison : traceOutside (monitorTurn s) = if compared then some (decide outside) else none := traceOutside_eq w
  have starts := deviationStarts_iff (s := monitorTurn s)
  have counts (k : Nat) : counted k = (monitorTurn s).withDeviation k := rfl
  rw [taken]
  refine ⟨fun none => ?none, fun is out short => ?short, fun is out reaches => ?reaches, fun is out stands => ?stands,
    fun is inside low => ?falls, fun is inside stands => ?ends⟩
  case none =>
    have found := comparison.trans (if_neg none)
    refine ⟨traceReaction_of_none found, exec_traceDeviation_of_not ?_⟩
    rw [starts, found]
    simp
  case short =>
    have found : traceOutside (monitorTurn s) = some true := by rw [comparison, if_pos is, decide_eq_true out]
    have notYet : ¬ ((monitorTurn s).trace.deviation < (monitorTurn s).trace.allowed ∧
        (monitorTurn s).trace.deviation + 1 = (monitorTurn s).trace.allowed) := fun ⟨_, reaches⟩ =>
      absurd reaches (Nat.ne_of_lt short)
    refine ⟨?_, exec_traceDeviation_of_not fun begins => notYet (starts.mp begins).2⟩
    rw [traceReaction_of_outside found, if_neg notYet, counts]
    exact congrArg _ (Nat.min_eq_right (Nat.le_of_lt short))
  case reaches =>
    have found : traceOutside (monitorTurn s) = some true := by rw [comparison, if_pos is, decide_eq_true out]
    have now : (monitorTurn s).trace.deviation < (monitorTurn s).trace.allowed ∧
        (monitorTurn s).trace.deviation + 1 = (monitorTurn s).trace.allowed := ⟨Nat.lt_of_succ_le (Nat.le_of_eq reaches), reaches⟩
    have reaction := (traceReaction_of_outside found).trans (if_pos now)
    refine ⟨reaction, ?_⟩
    rw [exec_traceDeviation_of_starts owed (starts.mpr ⟨found, now⟩), reaction]
    rfl
  case stands =>
    have found : traceOutside (monitorTurn s) = some true := by rw [comparison, if_pos is, decide_eq_true out]
    have already : ¬ ((monitorTurn s).trace.deviation < (monitorTurn s).trace.allowed ∧
        (monitorTurn s).trace.deviation + 1 = (monitorTurn s).trace.allowed) := fun ⟨below, _⟩ =>
      absurd below (Nat.not_lt.mpr stands)
    refine ⟨?_, exec_traceDeviation_of_not fun begins => already (starts.mp begins).2⟩
    rw [traceReaction_of_outside found, if_neg already, counts]
    exact congrArg _ (Nat.min_eq_left (Nat.le_succ_of_le stands))
  case falls =>
    have found : traceOutside (monitorTurn s) = some false := by rw [comparison, if_pos is, decide_eq_false inside]
    refine ⟨(traceReaction_of_within found).trans (if_neg (Nat.not_le.mpr low)), exec_traceDeviation_of_not ?_⟩
    rw [starts, found]
    simp
  case ends =>
    have found : traceOutside (monitorTurn s) = some false := by rw [comparison, if_pos is, decide_eq_false inside]
    refine ⟨(traceReaction_of_within found).trans (if_pos stands), exec_traceDeviation_of_not ?_⟩
    rw [starts, found]
    simp

end Sys2Proof.Machine

/-!
PROOF. The engine's reaction to a boundary whose other reactions are left (R37): no reaction, a segment's progress (R42), a
frame of dwell (R45), the stopping ramp (R49).
-/
namespace Sys2Proof.Machine
open Sys2Proof

/-! ## The reaction that changes the schedule alone -/

section
variable {s : State}

theorem addDistance_of_underway (underway : s.schedule.state.underway = true) :
    addDistance s =
      s.withSchedule
        { s.schedule with
          distance := s.schedule.distance + (s.schedule.virtualSpeed * ((s.clock.n : Int) + 1)).toNat } := if_pos underway

theorem reactSchedule_idle (idle : s.schedule.state = .idle ∨ s.schedule.state = .ended ∨ s.schedule.state = .aborted) :
    reactSchedule s = s := by
  unfold reactSchedule
  obtain state | state | state := idle <;> rw [state]

theorem reactSchedule_armed_shut (armed : s.schedule.state = .armed) (shut : gateOpen s = false) : reactSchedule s = s := by
  unfold reactSchedule reactArmed
  rw [armed, shut]
  rfl

/-- A segment short of its end follows its line (R42). -/
theorem reactSchedule_progress {a : ActiveSegment} (running : s.schedule.state = .running)
    (active : s.schedule.active = some a) (short : a.elapsed + 1 < a.record.duration) :
    reactSchedule s = addDistance (progress s a) := by
  simp only [reactSchedule, running, reactRunning, active, if_pos short]

theorem progress_eq_of_short {a : ActiveSegment} (short : a.elapsed + 1 < a.record.duration) :
    progress s a =
      s.withSchedule
        { s.schedule with
          virtualSpeed :=
            a.startSpeed + ((a.record.endSpeed - a.startSpeed) * ((a.elapsed : Int) + 1)).tdiv (a.record.duration : Int)
          active := some { a with elapsed := a.elapsed + 1 } } := by
  unfold progress rampSpeed
  rw [Nat.min_eq_left (Nat.le_of_lt short)]
  rfl

/-- A dwell below its limit counts at a shut gate (R45). -/
theorem reactSchedule_dwell_shut (dwell : s.schedule.state = .dwell) (shut : gateOpen s = false) :
    reactSchedule s =
      addDistance
        (if s.schedule.dwellLimit ≤ s.schedule.dwellCount + 1 then enterStopping (countDwell s) .dwellLimit
        else countDwell s) := by
  unfold reactSchedule reactDwell
  rw [dwell, shut]
  rfl

theorem reactSchedule_stopping (stopping : s.schedule.state = .stopping) :
    reactSchedule s =
      if (rampDown s).schedule.virtualSpeed = 0 then completeStop (rampDown s) else addDistance (rampDown s) := by
  simp only [reactSchedule, stopping, reactStopping]

theorem rampDown_of_above (falls : s.schedule.stopDeceleration < s.schedule.virtualSpeed) :
    rampDown s =
      s.withSchedule { s.schedule with virtualSpeed := s.schedule.virtualSpeed - s.schedule.stopDeceleration } := by
  unfold rampDown
  rw [max_eq_right (by omega)]

end

/-! ## The boundary with the other reactions left -/

/-- The reactions of the blocks other than the engine. -/
def otherReactions : List Reaction := [.directives, .holds, .link 0, .link 1, .link 2, .link 3, .trace, .limit]

/-- The state in which the engine reacts, the others' reactions being left: the boundary produced, the lines inactive. -/
def engineTurn (u : State) : State :=
  clearLines { beginBoundary u with boundary := { owed := otherReactions, foundActive := u.runActive } }

/-- A state with what its schedule leaves for the Trace Monitor (R188). -/
def State.leftForMonitor (s : State) : State :=
  { s with trace := { s.trace with leftState := s.schedule.state, leftSpeed := s.schedule.virtualSpeed } }

theorem takeReaction_engine (u : State) :
    takeReaction (beginBoundary u) .schedule = (reactSchedule (engineTurn u)).leftForMonitor := by
  have owed : Reaction.schedule ∈ (beginBoundary u).boundary.owed := mem_reactions .schedule
  rw [takeReaction_of_inner (by decide) (by decide), takeOwed_of_mem owed]
  rfl

theorem boundaryStep_others {s : State} (occurs : boundaryOccurs (settle s) = true) :
    boundaryStep [] otherReactions s = (reactSchedule (engineTurn (settle s))).leftForMonitor := by
  have alone : reactions.filter (!leftOwed otherReactions ·) = [.schedule] := by decide
  rw [boundaryStep_of_occurs occurs, List.nil_append, alone, List.foldl_cons, List.foldl_nil, takeReaction_engine]

/-- Settles O46: the schedule of the state in which the engine reacts, then its reaction by the schedule's state. -/
theorem engineReaction : Obligations.EngineReaction := by
  intro s
  have taken := boundaryStep_others (s := s)
  have exec_eq := exec_frameBoundary [] otherReactions s
  generalize settle s = w at taken
  intro u runs free below left f begun now leaves far
  have occurs : boundaryOccurs w = true := (boundaryOccurs_iff w).mpr ⟨runs, free, below⟩
  have begun_eq : (engineTurn w).schedule = begun := congrArg State.schedule (beginBoundary_eq w)
  have gate : gateOpen (engineTurn w) = gateOpen now := rfl
  have leaves_of {x : Schedule} (reacts : reactSchedule (engineTurn w) = (engineTurn w).withSchedule x) : leaves x := by
    change exec (.frameBoundary [] otherReactions) s = _
    rw [exec_eq, taken occurs, reacts]
    rfl
  clear_value begun
  subst begun_eq
  refine ⟨fun quiet => leaves_of ?quiet, fun a running active short => leaves_of ?progress,
    fun dwell shut under => leaves_of ?dwell, fun stopping falls => leaves_of ?stopping⟩
  case quiet =>
    have none : reactSchedule (engineTurn w) = engineTurn w := by
      obtain idle | ended | aborted | ⟨armed, shut⟩ := quiet
      · exact reactSchedule_idle (.inl idle)
      · exact reactSchedule_idle (.inr (.inl ended))
      · exact reactSchedule_idle (.inr (.inr aborted))
      · exact reactSchedule_armed_shut armed (gate.trans shut)
    exact none
  case progress =>
    have underway : (progress (engineTurn w) a).schedule.state.underway = true := congrArg ScheduleState.underway running
    rw [reactSchedule_progress (s := engineTurn w) running active short, addDistance_of_underway underway, progress_eq_of_short short]
    rfl
  case dwell =>
    have underway : (countDwell (engineTurn w)).schedule.state.underway = true := congrArg ScheduleState.underway dwell
    have below : ¬ (engineTurn w).schedule.dwellLimit ≤ (engineTurn w).schedule.dwellCount + 1 := Nat.not_le.mpr under
    rw [reactSchedule_dwell_shut (s := engineTurn w) dwell (gate.trans shut), if_neg below, addDistance_of_underway underway]
    rfl
  case stopping =>
    have falls : (engineTurn w).schedule.stopDeceleration < (engineTurn w).schedule.virtualSpeed := falls
    have moving : ¬ (engineTurn w).schedule.virtualSpeed - (engineTurn w).schedule.stopDeceleration = 0 := by omega
    rw [reactSchedule_stopping (s := engineTurn w) stopping, rampDown_of_above falls]
    exact (if_neg moving).trans (addDistance_of_underway (congrArg ScheduleState.underway stopping))

end Sys2Proof.Machine

/-!
PROOF. The engine's owed reaction as an event of its own (R44, R45, R49): DWELL_LIMIT, STOP_COMPLETE and SEGMENT_END.
-/
namespace Sys2Proof.Machine
open Sys2Proof

/-! ## The engine's owed reaction -/

/-- The state in which the engine takes its owed reaction: the reaction no longer owed, the lines inactive. -/
def engineOwed (s : State) : State :=
  clearLines { s with boundary := { s.boundary with owed := s.boundary.owed.filter (· ≠ .schedule) } }

section
variable {s : State} (owed : Reaction.schedule ∈ s.boundary.owed)
include owed

theorem takeReaction_schedule : takeReaction s .schedule = (reactSchedule (engineOwed s)).leftForMonitor := by
  rw [takeReaction_of_inner (by decide) (by decide), takeOwed_of_mem owed]
  rfl

theorem takeEvent_schedule {happens : Bool} (event : happens = true) :
    takeEvent .schedule happens s = (reactSchedule (engineOwed s)).leftForMonitor :=
  (takeEvent_of_happens owed event).trans (takeReaction_schedule owed)

end

theorem gateOpen_engineOwed (s : State) : gateOpen (engineOwed s) = gateOpen s := rfl

/-! ## DWELL_LIMIT and STOP_COMPLETE -/

theorem RunRecord.place_state (r : RunRecord) (e : ExceptionEntry) (x : RunState) :
    RunRecord.place { r with state := x } e = { r.place e with state := x } := by
  unfold RunRecord.place
  dsimp only
  split <;> rfl

/-- The RUN_STOP entry of a stop (R50). -/
def runStopEntry (s : State) (cause : StopCause) : ExceptionEntry :=
  { kind := .runStop, opened := s.schedule.runFrame, closed := none, axis := none, holder := none
    cause := some (.stop cause) }

/-- From DWELL, the entry into STOPPING, field by field (R45, R50). -/
theorem enterStopping_of_dwell {s : State} (dwell : s.schedule.state = .dwell) (cause : StopCause) :
    enterStopping s cause =
      { s with
        schedule := { s.schedule with state := .stopping, active := none, stopCause := some cause }
        record := { (placeEntry (closeDwell s) (runStopEntry s cause)).record with state := .stopping } } := by
  unfold enterStopping
  rw [if_pos dwell, placeRunStop_eq, placeEntry_eq, placeEntry_eq, closeDwell_eq, ← RunRecord.place_state]
  rfl

/-- The end of a run clears the speed, whatever it was. -/
theorem completeStop_eq (s : State) :
    completeStop s =
      { s with
        schedule := { s.schedule with state := .aborted, active := none, virtualSpeed := 0, dwellCount := 0 }
        road := { s.road with pendingSelection := none }
        record := { (closeEpisodes s).record with state := .aborted } } := finishRun_eq s _ _

/-- Settles O49: the dwell at its limit, then the ramp at its end. -/
theorem dwellLimitAndStopComplete : Obligations.DwellLimitAndStopComplete := by
  intro s owed base
  refine ⟨fun dwell shut limit => ?limit, fun stopping ends => ?complete⟩
  case limit =>
    have event : (decide (s.schedule.state = .dwell) && !gateOpen s &&
        decide (s.schedule.dwellLimit ≤ s.schedule.dwellCount + 1)) = true := by simp [dwell, shut, limit]
    have counted : (countDwell (engineOwed s)).schedule.state = .dwell := dwell
    have reaction := reactSchedule_dwell_shut (s := engineOwed s) dwell ((gateOpen_engineOwed s).trans shut)
    rw [if_pos (show (engineOwed s).schedule.dwellLimit ≤ (engineOwed s).schedule.dwellCount + 1 from limit),
      enterStopping_of_dwell counted, addDistance_of_underway rfl, placeEntry_eq, closeDwell_eq] at reaction
    refine congrArg Host.Outcome.next ((takeEvent_schedule owed event).trans ?_)
    rw [reaction, placeEntry_eq, closeDwell_eq]
    rfl
  case complete =>
    have event : (decide (s.schedule.state = .stopping) &&
        decide (s.schedule.virtualSpeed ≤ s.schedule.stopDeceleration)) = true := by simp [stopping, ends]
    have still : (rampDown (engineOwed s)).schedule.virtualSpeed = 0 :=
      max_eq_left (a := 0) (b := s.schedule.virtualSpeed - s.schedule.stopDeceleration) (by omega)
    have reaction := (reactSchedule_stopping (s := engineOwed s) stopping).trans (if_pos still)
    rw [completeStop_eq, closeEpisodes_eq] at reaction
    refine congrArg Host.Outcome.next ((takeEvent_schedule owed event).trans ?_)
    rw [reaction, closeEpisodes_eq]
    rfl

end Sys2Proof.Machine

/-!
PROOF. The end of a segment (R44): its schedule, its auto-releases (R100), and at a shut gate the dwell it leads to.
-/
namespace Sys2Proof.Machine
open Sys2Proof

/-! ## The auto-releases -/

section
variable {s : State}

theorem placementRefusal_release (normal : s.safety = .normal) {n : Axis} (clear : (s.latch n).state = .clear) :
    placementRefusal s n .release = none := by
  simp [placementRefusal, normal, clear]

/-- The directive slot of an axis with a release placed (R96). -/
def releaseSlot (s : State) (x : DirectiveSlot) : DirectiveSlot :=
  { x with
    pending := some { action := .release, placed := s.clock.f }, outcome := .deferred, outcomeFrame := s.clock.f }

theorem placedInto_release {n : Axis} (accepted : placementRefusal s n .release = none) (d : DirectiveUnit) :
    placedInto s d n .release =
      { d with
        slots := d.slots.set n (releaseSlot s (d.slots.get n)), order := d.order.filter (· ≠ n) ++ [n] } := by
  unfold placedInto
  rw [accepted]
  rfl

/-- A release placed for the axis, where it is in a group. -/
def placeGrouped (s : State) (d : DirectiveUnit) (n : Axis) : DirectiveUnit :=
  if (s.axis n).group.isSome = true then placedInto s d n .release else d

theorem releasesPlaced_eq (s : State) (g : Segment) :
    releasesPlaced s g = if g.autoRelease = true then axes.foldl (placeGrouped s) s.directives else s.directives := rfl

variable (accepted : ∀ n : Axis, (s.axis n).group.isSome = true → placementRefusal s n .release = none)
include accepted

theorem foldl_placeGrouped_order (ns : List Axis) (each : ns.Nodup) (d : DirectiveUnit) :
    (ns.foldl (placeGrouped s) d).order =
      d.order.filter (fun n => decide (n ∉ ns.filter fun n => (s.axis n).group.isSome)) ++
        ns.filter fun n => (s.axis n).group.isSome := by
  induction ns generalizing d with
  | nil => simp
  | cons n ns ih =>
    obtain ⟨new, each⟩ := List.nodup_cons.mp each
    rw [List.foldl_cons, ih each]
    by_cases grouped : (s.axis n).group.isSome = true
    · have apart : n ∉ ns.filter fun n => (s.axis n).group.isSome := fun mem => new (List.mem_of_mem_filter mem)
      rw [placeGrouped, if_pos grouped, placedInto_release (accepted n grouped), List.filter_cons, if_pos grouped]
      simp only [List.filter_append, List.filter_filter, List.filter_cons, apart, not_false_eq_true, decide_true,
        List.filter_nil, List.append_assoc, List.mem_cons, not_or, List.cons_append, List.nil_append, if_true]
      congr 1
      refine List.filter_congr fun m _ => ?_
      simp [Bool.and_comm]
    · rw [placeGrouped, if_neg grouped, List.filter_cons, if_neg grouped]

theorem foldl_placeGrouped_guards (ns : List Axis) (d : DirectiveUnit) :
    (ns.foldl (placeGrouped s) d).guards = d.guards := by
  induction ns generalizing d with
  | nil => rfl
  | cons n ns ih =>
    rw [List.foldl_cons, ih]
    unfold placeGrouped
    split
    case isTrue grouped => rw [placedInto_release (accepted n grouped)]
    case isFalse => rfl

theorem foldl_placeGrouped_slot (ns : List Axis) (each : ns.Nodup) (d : DirectiveUnit) (m : Axis) :
    (ns.foldl (placeGrouped s) d).slots.get m =
      if m ∈ ns ∧ (s.axis m).group.isSome = true then releaseSlot s (d.slots.get m) else d.slots.get m := by
  induction ns generalizing d with
  | nil => simp
  | cons n ns ih =>
    obtain ⟨new, each⟩ := List.nodup_cons.mp each
    rw [List.foldl_cons, ih each]
    have slot : (placeGrouped s d n).slots.get m =
        if m = n ∧ (s.axis m).group.isSome = true then releaseSlot s (d.slots.get m) else d.slots.get m := by
      unfold placeGrouped
      by_cases grouped : (s.axis n).group.isSome = true
      · rw [if_pos grouped, placedInto_release (accepted n grouped), Four.get_set]
        by_cases same : m = n
        · subst same
          simp [grouped]
        · simp [same]
      · rw [if_neg grouped, if_neg]
        rintro ⟨rfl, group⟩
        exact grouped group
    by_cases same : m = n
    · subst same
      simp [slot, new]
    · simp [slot, same]

end

/-! ## The end of a segment -/

/-- The state in which a segment has ended: its last progress made, its auto-releases placed, the segment discarded. -/
def segmentEnded (s : State) (a : ActiveSegment) : State := endSegment (progress (engineOwed s) a) a.record

section
variable {s : State} {a : ActiveSegment}

/-- A segment ends at its end speed (R42). -/
theorem rampSpeed_end {v0 vt : Int} {k d : Nat} (long : 1 ≤ d) (full : d ≤ k) : rampSpeed v0 vt (min k d) d = vt := by
  have nonzero : (d : Int) ≠ 0 := by omega
  unfold rampSpeed
  rw [Nat.min_eq_right full, Int.mul_tdiv_cancel _ nonzero]
  omega

theorem segmentEnded_schedule (long : 1 ≤ a.record.duration) (full : a.record.duration ≤ a.elapsed + 1) :
    (segmentEnded s a).schedule = { s.schedule with virtualSpeed := a.record.endSpeed, active := none } := by
  have ended : (segmentEnded s a).schedule = { (progress (engineOwed s) a).schedule with active := none } :=
    endSegment_schedule _ _
  unfold progress at ended
  rw [rampSpeed_end long full] at ended
  exact ended

theorem segmentEnded_directives : (segmentEnded s a).directives = releasesPlaced s a.record :=
  endSegment_directives _ _

theorem reactSchedule_engineOwed (running : s.schedule.state = .running) (active : s.schedule.active = some a)
    (full : a.record.duration ≤ a.elapsed + 1) :
    reactSchedule (engineOwed s) =
      if gateOpen s = true then takeAtGate (segmentEnded s a) else enterDwell (segmentEnded s a) :=
  reactSchedule_segmentEnd (engineOwed s) a running active full

/-- What a dwell's episode writes in the run record depends on the record and the run frame alone. -/
theorem openDwell_record_congr {t : State} (kind : ExceptionKind) (record : t.record = s.record)
    (runFrame : t.schedule.runFrame = s.schedule.runFrame) (there : t.runActive = true) (here : s.runActive = true) :
    (openDwell t kind).record = (openDwell s kind).record := by
  rw [openDwell_of_active there, openDwell_of_active here]
  simp only [record, episodeEntry, runFrame]

theorem segmentEnds_of_full (active : s.schedule.active = some a) (full : a.record.duration ≤ a.elapsed + 1) :
    segmentEnds s = true := by
  simp [segmentEnds, active, full]

variable (running : s.schedule.state = .running) (active : s.schedule.active = some a)
  (full : a.record.duration ≤ a.elapsed + 1)
include running active full

theorem segmentEndsNow_of_full : segmentEndsNow s = true := by
  simp [segmentEndsNow, running, segmentEnds_of_full active full]

theorem gateEvaluated_of_full : gateEvaluated s = true := by
  simp [gateEvaluated, running, segmentEnds_of_full active full]

end

theorem gateOpenOn_of_head {s : State} {g : Segment} {rest : List Segment} {closing : Bool} (isOpen : gateOpen s = true)
    (records : s.queue.records = g :: rest) (head : g.kind = .closing ↔ closing = true) : gateOpenOn s closing = true := by
  simp [gateOpenOn, isOpen, records, head]

/-- Settles O48: the rows of an open gate take one reaction; at a shut gate the dwell field by field; the releases. -/
theorem segmentEnd : Obligations.SegmentEnd := by
  intro s a owed running active long full
  have taken : exec .segmentEnd s = .next (reactSchedule (engineOwed s)).leftForMonitor :=
    congrArg Host.Outcome.next (takeEvent_schedule owed (segmentEndsNow_of_full running active full))
  have evaluated := gateEvaluated_of_full running active full
  refine ⟨fun g rest isOpen records => ?isOpen, fun shut => ?shut, fun none => ?noRelease, fun auto normal clear => ?releases⟩
  case isOpen =>
    rw [taken]
    split
    case isTrue closing =>
      have event : (gateEvaluated s && gateOpenOn s true) = true := by
        rw [evaluated, gateOpenOn_of_head isOpen records (by simp [closing])]; rfl
      exact (congrArg Host.Outcome.next (takeEvent_schedule owed event)).symm
    case isFalse segment =>
      have event : (gateEvaluated s && gateOpenOn s false) = true := by
        rw [evaluated, gateOpenOn_of_head isOpen records (by simp [segment])]; rfl
      exact (congrArg Host.Outcome.next (takeEvent_schedule owed event)).symm
  case shut =>
    have reaction := (reactSchedule_engineOwed running active full).trans (if_neg (by simp [shut]))
    have schedule := segmentEnded_schedule (s := s) long full
    have queue : (segmentEnded s a).queue = s.queue := by simp [segmentEnded, engineOwed]
    have here : s.runActive = true := (runActive_iff s).mpr (.inr (.inl running))
    have there : (segmentEnded s a).runActive = true :=
      (runActive_iff _).mpr (by rw [schedule]; exact .inr (.inl running))
    intro v
    rw [taken, reaction]
    refine congrArg Host.Outcome.next (State.ext_fields ?_ ?_ ?_ ?_ ?schedule ?_ ?_ ?_ ?directives ?_ ?_ ?_ ?_ ?_ ?_ ?_ ?record
      ?trace ?_ ?_ ?_)
    case schedule =>
      refine (enterDwell_schedule _).trans ?_
      rw [schedule]
      simp [segmentEnded, engineOwed, clearLines, v]
    case directives =>
      exact (enterDwell_keeps _).2.2.2.2.2.2.2.1.trans segmentEnded_directives
    case record =>
      refine (enterDwell_record there).trans ?_
      rw [queue, openDwell_record_congr _ (by simp [segmentEnded, engineOwed]) (by rw [schedule]) there here]
    case trace =>
      have kept : (segmentEnded s a).trace = s.trace := by simp [segmentEnded, engineOwed]
      simp [State.leftForMonitor, schedule, kept, v]
    all_goals simp [State.leftForMonitor, segmentEnded, engineOwed, clearLines]
  case noRelease => rw [releasesPlaced_eq, none]; rfl
  case releases =>
    intro grouped
    have accepted : ∀ n : Axis, (s.axis n).group.isSome = true → placementRefusal s n .release = none :=
      fun n group => placementRefusal_release normal (clear n group)
    rw [releasesPlaced_eq, if_pos auto]
    refine ⟨foldl_placeGrouped_order accepted axes (by decide) _, foldl_placeGrouped_guards accepted axes _, fun n => ?_⟩
    rw [foldl_placeGrouped_slot accepted axes (by decide)]
    simp only [mem_axes, true_and]
    rfl

end Sys2Proof.Machine

/-!
PROOF. The head taken at an open gate (R38, R40, R41): one state stands for the gate in ARMED, in DWELL and at a segment's
end; from it a segment starts or the run ends.
-/
namespace Sys2Proof.Machine
open Sys2Proof

/-! ## The state at the gate -/

/-- The state at an open gate: the engine's reaction no longer owed and the lines inactive, at a virtual speed, with an
active segment or none, and with the directives an ended segment has left. -/
def atGate (s : State) (v : Int) (x : Option ActiveSegment) (d : DirectiveUnit) : State :=
  { engineOwed s with
    schedule := { s.schedule with virtualSpeed := v, active := x }
    directives := d }

theorem segmentEnded_eq {s : State} {a : ActiveSegment} (long : 1 ≤ a.record.duration)
    (full : a.record.duration ≤ a.elapsed + 1) :
    segmentEnded s a = atGate s a.record.endSpeed none (releasesPlaced s a.record) := by
  refine State.ext_fields ?_ ?_ ?_ ?_ (segmentEnded_schedule long full) ?_ ?_ ?_ segmentEnded_directives ?_ ?_ ?_ ?_ ?_ ?_ ?_ ?_
    ?_ ?_ ?_ ?_ <;> simp [segmentEnded, atGate]

/-- The virtual speed at which a head is taken: at a segment's end, that segment's end speed (R40). -/
def gateSpeed (s : State) : Int :=
  match s.schedule.state, s.schedule.active with
  | .running, some a => a.record.endSpeed
  | _, _ => s.schedule.virtualSpeed

/-- The directives before a head is taken: at a segment's end, with its releases (R44, R100). -/
def gateDirectives (s : State) : DirectiveUnit :=
  match s.schedule.state, s.schedule.active with
  | .running, some a => releasesPlaced s a.record
  | _, _ => s.directives

/-- The engine has a gate to evaluate: in ARMED, in DWELL, or at the end of a segment (R38). -/
def AtGate (s : State) : Prop :=
  s.schedule.state = .armed ∨ s.schedule.state = .dwell ∨
    s.schedule.state = .running ∧
      ∃ a, s.schedule.active = some a ∧ 1 ≤ a.record.duration ∧ a.record.duration ≤ a.elapsed + 1

section
variable {s : State}

theorem gateEvaluated_of_atGate (gate : AtGate s) : gateEvaluated s = true := by
  obtain armed | dwell | ⟨running, a, active, -, full⟩ := gate
  · simp [gateEvaluated, armed]
  · simp [gateEvaluated, dwell]
  · exact gateEvaluated_of_full running active full

theorem reactSchedule_atGate (gate : AtGate s) (isOpen : gateOpen s = true) :
    ∃ x, reactSchedule (engineOwed s) = takeAtGate (atGate s (gateSpeed s) x (gateDirectives s)) := by
  have waits (waiting : s.schedule.state = .armed ∨ s.schedule.state = .dwell) (speed : gateSpeed s = s.schedule.virtualSpeed)
      (directives : gateDirectives s = s.directives) :
      ∃ x, reactSchedule (engineOwed s) = takeAtGate (atGate s (gateSpeed s) x (gateDirectives s)) := by
    refine ⟨s.schedule.active, ?_⟩
    rw [speed, directives]
    exact reactSchedule_waiting (engineOwed s) isOpen waiting
  obtain armed | dwell | ⟨running, a, active, long, full⟩ := gate
  · exact waits (.inl armed) (by simp [gateSpeed, armed]) (by simp [gateDirectives, armed])
  · exact waits (.inr dwell) (by simp [gateSpeed, dwell]) (by simp [gateDirectives, dwell])
  · have speed : gateSpeed s = a.record.endSpeed := by simp [gateSpeed, running, active]
    have directives : gateDirectives s = releasesPlaced s a.record := by simp [gateDirectives, running, active]
    refine ⟨none, ?_⟩
    rw [reactSchedule_engineOwed running active full, if_pos isOpen, segmentEnded_eq long full, speed, directives]

/-! ## The start of a segment there -/

variable {v : Int} {x : Option ActiveSegment} {d : DirectiveUnit}

theorem dwellEnded_atGate : dwellEnded (atGate s v x d) = dwellEnded s := by
  unfold dwellEnded
  rw [closeDwell_eq, closeDwell_eq]
  rfl

theorem selectionRecord_atGate (r : RunRecord) : selectionRecord (atGate s v x d) r = selectionRecord s r := rfl

theorem selectionRecord_phases (r : RunRecord) : (selectionRecord s r).phases = r.phases := by
  unfold selectionRecord
  split
  · rfl
  · split
    · split <;> rfl
    · rfl

theorem dwellEnded_phases : (dwellEnded s).phases = s.record.phases := by
  unfold dwellEnded
  rw [closeDwell_eq]
  split <;> rfl

theorem itemsPlaced_atGate (u : DirectiveUnit) (items : List DirectiveItem) :
    itemsPlaced (atGate s v x d) u items = itemsPlaced s u items := rfl

/-- The run record of a segment's start (R40): the dwell closed, the selection's entry, the phase entry or its loss. -/
def startRecord (s : State) (g : Segment) (distance : Nat) : RunRecord :=
  match g.phase with
  | none => selectionRecord s (dwellEnded s)
  | some p =>
    if s.record.phases.length < 16 then
      { selectionRecord s (dwellEnded s) with
        phases :=
          s.record.phases ++
            [{ phase := p.number, segment := g.number, runFrame := s.schedule.runFrame, distance := distance / 3600 }] }
    else { selectionRecord s (dwellEnded s) with phaseOverflow := true }

/-- The schedule of a segment's start (R40). -/
def startSchedule (s : State) (g : Segment) (v : Int) : Schedule :=
  { s.schedule with
    state := .running
    active := some { record := g, startSpeed := v, startFrame := s.clock.f, elapsed := 0 }
    virtualSpeed := v
    distance := s.schedule.distance + (v * ((s.clock.n : Int) + 1)).toNat
    dwellCount := 0
    startFrame := some (s.schedule.startFrame.getD s.clock.f)
    currentPhase := match g.phase with
      | some p => some p.number
      | none => s.schedule.currentPhase }

theorem startSegment_atGate {g : Segment} {rest : List Segment} (records : s.queue.records = g :: rest) :
    let t := startSegment (atGate s v x d) g
    t.queue = { s.queue with records := rest, low := decide (rest.length ≤ s.queue.lowWaterMark) } ∧
    t.schedule = startSchedule s g v ∧
    t.clock = { s.clock with lines := (g.phase.map (·.lines)).getD ⟨false, false, false, false⟩, lineHold := none } ∧
    t.road = (applySelection s).road ∧ t.directives = itemsPlaced s d g.directives ∧
    t.record = startRecord s g t.schedule.distance := by
  obtain ⟨queue, schedule, clock, road, directives, record⟩ := startSegment_eq (atGate s v x d) g rest records
  refine ⟨queue, schedule, clock, ?road, directives, ?record⟩
  case road => rw [road, applySelection_road, applySelection_road]; rfl
  case record =>
    rw [record, dwellEnded_atGate, selectionRecord_atGate, selectionRecord_phases, dwellEnded_phases]
    rfl

/-! ## The end of the run there -/

theorem enterEnded_atGate {g : Segment} {rest : List Segment} (records : s.queue.records = g :: rest) :
    enterEnded (takeHead (atGate s v x d)) =
      { engineOwed s with
        queue := { s.queue with records := rest, low := decide (rest.length ≤ s.queue.lowWaterMark) }
        schedule := { s.schedule with state := .ended, active := none, virtualSpeed := 0, dwellCount := 0, stopCause := none }
        road := { s.road with pendingSelection := none }
        directives := d
        record := { (closeEpisodes s).record with state := .ended } } := by
  have queue := takeHead_queue (s := atGate s v x d) records
  unfold takeHead at queue ⊢
  rw [enterEnded, finishRun_eq, queue, closeEpisodes_eq, closeEpisodes_eq]
  rfl

end

end Sys2Proof.Machine

/-!
PROOF. SEGMENT_START and END_TAKEN as rows of their own (R38, R40, R41).
-/
namespace Sys2Proof.Machine
open Sys2Proof

section
variable {s : State} {g : Segment} {rest : List Segment}

/-- The row of the head's own kind takes the engine's owed reaction (R38). -/
theorem takeEvent_atGate (owed : Reaction.schedule ∈ s.boundary.owed) (records : s.queue.records = g :: rest)
    (isOpen : gateOpen s = true) (gate : AtGate s) {closing : Bool} (head : g.kind = .closing ↔ closing = true) :
    takeEvent .schedule (gateEvaluated s && gateOpenOn s closing) s = (reactSchedule (engineOwed s)).leftForMonitor :=
  takeEvent_schedule owed (by rw [gateEvaluated_of_atGate gate, gateOpenOn_of_head isOpen records head]; rfl)

/-- What neither a start nor an end at the gate touches. -/
structure GateFrame (s : State) (rest : List Segment) (t : State) : Prop where
  fixed : t =
    { s with
      clock := t.clock, boundary := t.boundary, queue := t.queue, schedule := t.schedule, directives := t.directives
      road := t.road, record := t.record, trace := t.trace }
  boundary : t.boundary = { s.boundary with owed := s.boundary.owed.filter (· ≠ .schedule) }
  queue : t.queue = { s.queue with records := rest, low := decide (rest.length ≤ s.queue.lowWaterMark) }
  trace : t.trace = { s.trace with leftState := t.schedule.state, leftSpeed := t.schedule.virtualSpeed }

variable {v : Int} {x : Option ActiveSegment} {d : DirectiveUnit}

theorem startSegment_frame (records : s.queue.records = g :: rest) :
    GateFrame s rest (startSegment (atGate s v x d) g).leftForMonitor := by
  have keeps := startSegment_keeps (atGate s v x d) g
  obtain ⟨queue, -⟩ := startSegment_atGate (v := v) (x := x) (d := d) records
  generalize startSegment (atGate s v x d) g = t at keeps queue
  obtain ⟨pending, boundary, holds, axes, sync, loss, links, linkSettings, latches, safety, level, trace, receivers, held,
    drawn⟩ := keeps
  refine ⟨?_, boundary, queue, ?_⟩
  · exact State.ext_fields pending rfl rfl rfl rfl holds axes sync rfl loss rfl links linkSettings latches safety level rfl rfl
      receivers held drawn
  · unfold State.leftForMonitor
    rw [trace]
    rfl

theorem enterEnded_frame (records : s.queue.records = g :: rest) :
    GateFrame s rest (enterEnded (takeHead (atGate s v x d))).leftForMonitor := by
  rw [enterEnded_atGate records]
  exact ⟨rfl, rfl, rfl, rfl⟩

end

/-- Settles O47: the state at the gate, from which the segment starts or the run ends. -/
theorem headTaken : Obligations.HeadTaken := by
  intro s g rest owed records isOpen gate v released frame
  have speed : v = gateSpeed s := rfl
  have directives : released = gateDirectives s := rfl
  have frame_of {t : State} (framed : GateFrame s rest t) : frame t :=
    ⟨framed.fixed, framed.boundary, framed.queue, framed.trace⟩
  clear_value v released frame
  subst speed directives
  obtain ⟨x, reaction⟩ := reactSchedule_atGate gate isOpen
  refine ⟨fun segment => ?start, fun closing => ?ended⟩
  case start =>
    have head : g.kind = .closing ↔ false = true := by simp [segment]
    have event := takeEvent_atGate owed records isOpen gate head
    rw [reaction, takeAtGate_of_segment (s := atGate s _ x _) records segment] at event
    obtain ⟨-, schedule, clock, road, directives, record⟩ :=
      startSegment_atGate (v := gateSpeed s) (x := x) (d := gateDirectives s) records
    refine ⟨_, congrArg Host.Outcome.next event, frame_of (startSegment_frame records), schedule.trans ?_, clock.trans ?_, ?_, ?_,
      directives⟩
    · cases phase : g.phase <;> simp [startSchedule, phase]
    · cases g.phase <;> rfl
    · intro dwellClosed selected
      have selected_eq : selectionRecord s (dwellEnded s) = selected := by
        unfold selectionRecord selected
        cases s.road.pendingSelection with
        | none => rfl
        | some name => cases name <;> rfl
      refine record.trans ?_
      unfold startRecord
      rw [selected_eq]
      cases g.phase <;> rfl
    · refine road.trans ((applySelection_road s).trans ?_)
      obtain ⟨bankA, bankB, selection⟩ := s.road
      cases selection with
      | none => rfl
      | some name => cases name <;> cases bankA <;> cases bankB <;> rfl
  case ended =>
    have head : g.kind = .closing ↔ true = true := by simp [closing]
    have event := takeEvent_atGate owed records isOpen gate head
    rw [reaction, takeAtGate_of_closing (s := atGate s _ x _) records closing] at event
    refine ⟨_, congrArg Host.Outcome.next event, frame_of (enterEnded_frame records), ?_⟩
    rw [enterEnded_atGate records]
    exact ⟨rfl, rfl, rfl, rfl, rfl⟩

end Sys2Proof.Machine

/-!
PROOF. HOLD_EXPIRY (R69, R70): the entries removed, and the HOLD_EXPIRED entries placed in the fixed holder order (R183).
-/
namespace Sys2Proof.Machine
open Sys2Proof

/-! ## Entries placed one after another -/

/-- The record with entries placed one after another, or lost (R183). -/
def RunRecord.placeAll (r : RunRecord) (es : List ExceptionEntry) : RunRecord := es.foldl RunRecord.place r

theorem RunRecord.placeAll_append (r : RunRecord) (es fs : List ExceptionEntry) :
    r.placeAll (es ++ fs) = (r.placeAll es).placeAll fs := List.foldl_append

theorem RunRecord.placeAll_eq {r : RunRecord} (fits : r.exceptions.length ≤ 32) (es : List ExceptionEntry) :
    r.placeAll es =
      { r with
        exceptions := (r.exceptions ++ es).take 32
        exceptionOverflow := r.exceptionOverflow || decide (32 < r.exceptions.length + es.length) } := by
  induction es generalizing r with
  | nil =>
    have whole : (r.exceptions ++ []).take 32 = r.exceptions := by simpa using fits
    have noLoss : decide (32 < r.exceptions.length + ([] : List ExceptionEntry).length) = false := by simpa using fits
    rw [whole, noLoss, Bool.or_false]
    rfl
  | cons e es ih =>
    change RunRecord.placeAll (r.place e) es = _
    unfold RunRecord.place
    split
    case isTrue room =>
      rw [ih (by simp; omega)]
      simp [Nat.add_assoc, Nat.add_comm 1]
    case isFalse full =>
      have length : r.exceptions.length = 32 := by omega
      rw [ih (r := { r with exceptionOverflow := true }) fits]
      simp [length]

/-! ## The expiries -/

section
variable {s : State}

/-- The HOLD_EXPIRED entry of a holder whose entry expires at this boundary (R182). -/
def expiredEntries (s : State) (who : Holder) : List ExceptionEntry :=
  match s.holds.get who with
  | some e => if e.expiry = some s.clock.f then [expiredEntry s who e] else []
  | none => []

theorem expireHold_record (who : Holder) :
    (expireHold s who).record =
      if s.boundary.foundActive = true then s.record.placeAll (expiredEntries s who) else s.record := by
  unfold expireHold expiredEntries
  cases s.holds.get who with
  | none => exact (ite_self _).symm
  | some e =>
    dsimp only
    by_cases expires : e.expiry = some s.clock.f
    · rw [if_pos expires, if_pos expires]
      split
      · rw [placeEntry_eq]; rfl
      · rfl
    · rw [if_neg expires, if_neg expires]
      exact (ite_self _).symm

/-- One holder's expiry leaves the entries of the others as they were. -/
theorem expiredEntries_expireHold {who other : Holder} (apart : other ≠ who) :
    expiredEntries (expireHold s who) other = expiredEntries s other := by
  unfold expiredEntries expiredEntry pointEntry
  rw [expireHold_hold, if_neg apart, (expireHold_keeps s who).2.1, (expireHold_keeps s who).2.2.2.2.1]

theorem foldl_expireHold_record (xs : List Holder) (each : xs.Nodup) :
    (xs.foldl expireHold s).record =
      if s.boundary.foundActive = true then s.record.placeAll (xs.flatMap (expiredEntries s)) else s.record := by
  induction xs generalizing s with
  | nil => exact (ite_self _).symm
  | cons x xs ih =>
    obtain ⟨new, each⟩ := List.nodup_cons.mp each
    have others : xs.flatMap (expiredEntries (expireHold s x)) = xs.flatMap (expiredEntries s) :=
      List.flatMap_congr fun other mem => expiredEntries_expireHold fun same => new (same ▸ mem)
    rw [List.foldl_cons, ih each, expireHold_record, (expireHold_keeps s x).2.2.1, others, List.flatMap_cons]
    split
    · exact (RunRecord.placeAll_append _ _ _).symm
    · rfl

theorem holdsReaction_record :
    (holdsReaction s).record =
      if s.boundary.foundActive = true then s.record.placeAll (holders.flatMap (expiredEntries s)) else s.record :=
  foldl_expireHold_record holders (by decide)

theorem expiresNow_of_entry {who : Holder} {e : HoldEntry} (entry : s.holds.get who = some e)
    (expires : e.expiry = some s.clock.f) : holders.any (expiresNow s) = true :=
  List.any_eq_true.mpr ⟨who, mem_holders who, by simp [expiresNow, entry, expires]⟩

/-- The state in which the Hold Set takes its owed reaction. -/
def holdsTurn (s : State) : State :=
  { s with boundary := { s.boundary with owed := s.boundary.owed.filter (· ≠ .holds) } }

theorem exec_holdExpiry_of_entry (owed : Reaction.holds ∈ s.boundary.owed) {who : Holder} {e : HoldEntry}
    (entry : s.holds.get who = some e) (expires : e.expiry = some s.clock.f) :
    exec .holdExpiry s = .next (holdsReaction (holdsTurn s)) := by
  refine congrArg Host.Outcome.next ((takeEvent_of_happens owed (expiresNow_of_entry entry expires)).trans ?_)
  rw [takeReaction_of_inner (by decide) (by decide), takeOwed_of_mem owed]
  rfl

end

/-- Settles O50: the entries left, then the record with the HOLD_EXPIRED entries in the holder order. -/
theorem holdExpiryResult : Obligations.HoldExpiryResult := by
  intro s who e owed entry expires
  refine ⟨_, exec_holdExpiry_of_entry owed entry expires, ?frame, fun x => ?holds, fun inactive => ?inactive,
    fun active fits => ?active⟩
  case frame =>
    obtain ⟨pending, clock, boundary, queue, schedule, axes, sync, directives, loss, road, links, linkSettings, latches, safety,
      level, trace, receivers, held, drawn⟩ := holdsReaction_keeps (holdsTurn s)
    exact State.ext_fields pending clock boundary queue schedule rfl axes sync directives loss road links linkSettings latches
      safety level rfl trace receivers held drawn
  case holds => exact holdsReaction_hold (holdsTurn s) x
  case inactive => exact holdsReaction_record.trans (if_neg (by simp [holdsTurn, inactive]))
  case active =>
    intro expired entries
    have entries_eq : holders.flatMap (expiredEntries (holdsTurn s)) = entries := by
      simp only [holders, List.flatMap_cons, List.flatMap_nil, List.append_nil, entries, List.append_assoc]
      rfl
    have record := (holdsReaction_record (s := holdsTurn s)).trans (if_pos active)
    rw [entries_eq] at record
    exact record.trans (RunRecord.placeAll_eq fits entries)

end Sys2Proof.Machine

/-!
PROOF. One pending directive considered (R105): each of its outcomes as one equation, and what the consideration of one axis
leaves of the others.
-/
namespace Sys2Proof.Machine
open Sys2Proof

/-! ## The placement checks -/

theorem placementRefusal_eq (s : State) (n : Axis) (action : Action) :
    placementRefusal s n action =
      if s.safety ≠ .normal then some .refusedSafe
      else if (s.latch n).state = .set then some .refusedFault
      else if action = .release then none
      else if (s.axis n).mode ≠ .road then some .refusedMode
      else if (s.link n).state ≠ .up then some .refusedLink
      else if (s.axis n).group.isSome = true ∧ (s.axis n).group.map Action.engage ≠ some action then some .refusedEngaged
      else none := by
  unfold placementRefusal
  cases action with
  | release => simp
  | engage g => cases (s.axis n).group <;> simp

/-! ## The outcomes of a consideration -/

section
variable {s : State} {n : Axis}

theorem considerDirective_of_none (none : (s.slot n).pending = none) : considerDirective s n = s := by
  simp only [considerDirective, none]

variable {d : Directive} (pending : (s.slot n).pending = some d)
include pending

theorem considerDirective_early (early : s.clock.f ≤ d.placed) : considerDirective s n = s := by
  simp only [considerDirective, pending, if_pos early]

variable (later : d.placed < s.clock.f)
include later

theorem considerDirective_refused {o : DirectiveOutcome} (refused : placementRefusal s n d.action = some o) :
    considerDirective s n = concludeDirective s n o := by
  simp only [considerDirective, pending, if_neg (Nat.not_le.mpr later), refused]

variable (accepted : placementRefusal s n d.action = none)
include accepted

theorem considerDirective_redundant (idle : redundant s n d.action = true) :
    considerDirective s n = concludeDirective s n .redundant := by
  simp only [considerDirective, pending, if_neg (Nat.not_le.mpr later), accepted, idle, if_true]

variable (changes : redundant s n d.action = false)
include changes

theorem considerDirective_guarded (guarded : guardsAllow s n d.action = false) : considerDirective s n = s := by
  simp [considerDirective, pending, Nat.not_le.mpr later, accepted, changes, guarded]

variable (allowed : guardsAllow s n d.action = true)
include allowed

theorem considerDirective_applied :
    considerDirective s n =
      match d.action with
      | .release => applyRelease s n
      | .engage g => if (s.axis n).driveStatus = some .brakeSet then s else applyEngage s n g := by
  simp only [considerDirective, pending, if_neg (Nat.not_le.mpr later), accepted, changes, allowed]
  rfl

theorem considerDirective_release (release : d.action = .release) : considerDirective s n = applyRelease s n := by
  rw [considerDirective_applied pending later accepted changes allowed, release]

theorem considerDirective_engage {g : Group} (engage : d.action = .engage g) :
    considerDirective s n = if (s.axis n).driveStatus = some .brakeSet then s else applyEngage s n g := by
  rw [considerDirective_applied pending later accepted changes allowed, engage]

end

/-- Every outcome of a consideration: nothing, a conclusion, a release applied, an engage applied. -/
theorem considerDirective_cases (s : State) (n : Axis) :
    considerDirective s n = s ∨
    ∃ d, (s.slot n).pending = some d ∧
      ((∃ o, considerDirective s n = concludeDirective s n o) ∨
        d.action = .release ∧ considerDirective s n = applyRelease s n ∨
        ∃ g, d.action = .engage g ∧ considerDirective s n = applyEngage s n g) := by
  cases pending : (s.slot n).pending with
  | none => exact .inl (considerDirective_of_none pending)
  | some d =>
    by_cases early : s.clock.f ≤ d.placed
    · exact .inl (considerDirective_early pending early)
    have later : d.placed < s.clock.f := Nat.not_le.mp early
    cases accepted : placementRefusal s n d.action with
    | some o => exact .inr ⟨d, rfl, .inl ⟨o, considerDirective_refused pending later accepted⟩⟩
    | none =>
      cases changes : redundant s n d.action with
      | true => exact .inr ⟨d, rfl, .inl ⟨_, considerDirective_redundant pending later accepted changes⟩⟩
      | false =>
        cases allowed : guardsAllow s n d.action with
        | false => exact .inl (considerDirective_guarded pending later accepted changes allowed)
        | true =>
          cases action : d.action with
          | release =>
            exact .inr ⟨d, rfl, .inr (.inl ⟨action, considerDirective_release pending later accepted changes allowed action⟩)⟩
          | engage g =>
            have engaged := considerDirective_engage pending later accepted changes allowed action
            by_cases brake : (s.axis n).driveStatus = some .brakeSet
            · exact .inl (engaged.trans (if_pos brake))
            · exact .inr ⟨d, rfl, .inr (.inr ⟨g, action, engaged.trans (if_neg brake)⟩)⟩

/-! ## What applying a directive writes -/

section
variable {s : State} {n : Axis}

theorem releaseAxis_eq (s : State) (n : Axis) :
    releaseAxis s n =
      if (s.axis n).group.isSome = true then
        { s with
          record := if (s.axis n).sync = .slipping then (closeSlip s n).record else s.record
          axes := s.axes.set n ((s.axis n).uncouple .uncoupled)
          directives :=
            { s.directives with slots := s.directives.slots.set n { s.slot n with released := some s.clock.f } } }
      else s := by
  unfold releaseAxis
  split
  case isTrue grouped => rw [leaveGroup_eq, if_pos grouped]
  case isFalse => rfl

theorem releaseAxis_guards : (releaseAxis s n).directives.guards = s.directives.guards := by
  rw [releaseAxis_eq]
  split <;> rfl

theorem applyRelease_slot (m : Axis) :
    (applyRelease s n).slot m =
      if m = n then
        { (releaseAxis s n).slot n with pending := none, outcome := .applied, outcomeFrame := s.clock.f }
      else s.slot m := by
  unfold applyRelease
  rw [concludeDirective_slot, releaseAxis_slot, releaseAxis_slot, (releaseAxis_keeps s n).2.1]
  by_cases same : m = n
  · simp [same]
  · simp [same]

theorem applyRelease_axis (m : Axis) :
    (applyRelease s n).axis m =
      if m = n ∧ (s.axis n).group.isSome = true then (s.axis n).uncouple .uncoupled else s.axis m :=
  releaseAxis_axis s n m

theorem applyRelease_order : (applyRelease s n).directives.order = s.directives.order.filter (· ≠ n) :=
  congrArg (List.filter (· ≠ n)) (releaseAxis_order s n)

theorem applyRelease_guards : (applyRelease s n).directives.guards = s.directives.guards := releaseAxis_guards

theorem applyEngage_order (g : Group) : (applyEngage s n g).directives.order = s.directives.order.filter (· ≠ n) := rfl

theorem applyEngage_guards (g : Group) : (applyEngage s n g).directives.guards = s.directives.guards := rfl

/-- An ENGAGE applied, whole (R86, R107). -/
theorem applyEngage_eq (s : State) (n : Axis) (g : Group) :
    applyEngage s n g =
      concludeDirective
        { s with
          axes :=
            s.axes.set n
              { s.axis n with group := some g, sync := .acquiring, lockCount := 0, slipCount := 0, speedError := 0 }
          directives :=
            { s.directives with slots := s.directives.slots.set n { s.slot n with engaged := some s.clock.f } } }
        n .applied := rfl

end

end Sys2Proof.Machine

/-!
PROOF. The Directive Unit's reaction as two passes (R105 to R107): what they leave of an axis they do not conclude, and of an
axis they have concluded.
-/
namespace Sys2Proof.Machine
open Sys2Proof

/-! ## The passes -/

/-- One axis of the pass over the releases. -/
def releaseStep (t : State) (m : Axis) : State := if pendingRelease t m then considerDirective t m else t

/-- One axis of the pass over the engages. -/
def engageStep (t : State) (m : Axis) : State := if pendingEngage t m then considerDirective t m else t

theorem directivesReaction_eq (s : State) :
    directivesReaction s =
      (axes.foldl releaseStep s).directives.order.foldl engageStep (axes.foldl releaseStep s) := rfl

section
variable {s : State} {n : Axis}

theorem pendingRelease_iff :
    pendingRelease s n = true ↔ ∃ d, (s.slot n).pending = some d ∧ d.action = .release := by
  rw [pendingRelease_eq]
  cases (s.slot n).pending <;> simp

theorem pendingEngage_iff :
    pendingEngage s n = true ↔ ∃ d, (s.slot n).pending = some d ∧ ∃ g, d.action = .engage g := by
  unfold pendingEngage
  rw [pendingRelease_eq]
  cases (s.slot n).pending with
  | none => simp
  | some d => cases action : d.action <;> simp [action]

theorem releaseStep_of_release (release : pendingRelease s n = true) : releaseStep s n = considerDirective s n := if_pos release

theorem releaseStep_of_not (none : ¬ pendingRelease s n = true) : releaseStep s n = s := if_neg none

theorem engageStep_of_engage (engage : pendingEngage s n = true) : engageStep s n = considerDirective s n := if_pos engage

theorem engageStep_of_not (none : ¬ pendingEngage s n = true) : engageStep s n = s := if_neg none

theorem considerDirective_guards : (considerDirective s n).directives.guards = s.directives.guards := by
  obtain same | ⟨d, -, ⟨o, same⟩ | ⟨-, same⟩ | ⟨g, -, same⟩⟩ := considerDirective_cases s n
  · rw [same]
  · rw [same, concludeDirective_guards]
  · rw [same, applyRelease_guards]
  · rw [same, applyEngage_guards]

theorem considerDirective_order :
    considerDirective s n = s ∨ (considerDirective s n).directives.order = s.directives.order.filter (· ≠ n) := by
  obtain same | ⟨d, -, ⟨o, same⟩ | ⟨-, same⟩ | ⟨g, -, same⟩⟩ := considerDirective_cases s n
  · exact .inl same
  · rw [same]; exact .inr rfl
  · rw [same]; exact .inr applyRelease_order
  · rw [same]; exact .inr (applyEngage_order g)

theorem considerDirective_other (m : Axis) (other : n ≠ m) :
    (considerDirective s m).axis n = s.axis n ∧ (considerDirective s m).slot n = s.slot n := by
  obtain same | ⟨d, -, ⟨o, same⟩ | ⟨-, same⟩ | ⟨g, -, same⟩⟩ := considerDirective_cases s m
  · rw [same]
    exact ⟨rfl, rfl⟩
  · rw [same, concludeDirective_slot, if_neg other]
    exact ⟨rfl, rfl⟩
  · rw [same, applyRelease_slot, if_neg other, applyRelease_axis, if_neg fun both => other both.1]
    exact ⟨rfl, rfl⟩
  · rw [same, applyEngage_slot, if_neg other, applyEngage_axis, if_neg other]
    exact ⟨rfl, rfl⟩

end

/-! ## An axis not considered yet -/

/-- What the consideration of axis n reads of the axis itself, and of the whole part, is as it was. -/
structure Untouched (n : Axis) (s t : State) : Prop where
  axis : t.axis n = s.axis n
  slot : t.slot n = s.slot n
  clock : t.clock = s.clock
  safety : t.safety = s.safety
  latches : t.latches = s.latches
  links : t.links = s.links
  guards : t.directives.guards = s.directives.guards

theorem Untouched.refl (n : Axis) (s : State) : Untouched n s s := ⟨rfl, rfl, rfl, rfl, rfl, rfl, rfl⟩

section
variable {s t u : State} {n : Axis}

theorem Untouched.trans (first : Untouched n s t) (then_ : Untouched n t u) : Untouched n s u :=
  ⟨then_.axis.trans first.axis, then_.slot.trans first.slot, then_.clock.trans first.clock, then_.safety.trans first.safety,
    then_.latches.trans first.latches, then_.links.trans first.links, then_.guards.trans first.guards⟩

theorem considerDirective_untouched (m : Axis) (other : n ≠ m) : Untouched n s (considerDirective s m) := by
  obtain ⟨axis, slot⟩ := considerDirective_other (s := s) m other
  exact ⟨axis, slot, by simp, by simp, by simp, by simp, considerDirective_guards⟩

theorem releaseStep_untouched (m : Axis) (other : n ≠ m) : Untouched n s (releaseStep s m) := by
  unfold releaseStep
  split
  · exact considerDirective_untouched m other
  · exact .refl n s

theorem foldl_releaseStep_untouched (ms : List Axis) (others : n ∉ ms) (s : State) :
    Untouched n s (ms.foldl releaseStep s) := by
  induction ms generalizing s with
  | nil => exact .refl n s
  | cons m ms ih =>
    simp only [List.mem_cons, not_or] at others
    obtain ⟨other, others⟩ := others
    exact (releaseStep_untouched m other).trans (ih others _)

theorem Untouched.placementRefusal (same : Untouched n s t) (action : Action) :
    placementRefusal t n action = placementRefusal s n action := by
  unfold Machine.placementRefusal State.latch State.link
  rw [same.safety, same.latches, same.axis, same.links]

theorem Untouched.redundant (same : Untouched n s t) (action : Action) : redundant t n action = redundant s n action := by
  unfold Machine.redundant
  rw [same.axis]

end

/-! ## An axis concluded -/

/-- Axis n stands concluded, with its record and its directive slot. -/
structure StandsConcluded (n : Axis) (record : AxisRecord) (slot : DirectiveSlot) (t : State) : Prop where
  axis : t.axis n = record
  slot_eq : t.slot n = slot
  order : n ∉ t.directives.order

section
variable {n : Axis} {record : AxisRecord} {slot : DirectiveSlot} (none : slot.pending = none)
include none

theorem StandsConcluded.considerDirective {t : State} (stands : StandsConcluded n record slot t) (m : Axis) :
    StandsConcluded n record slot (considerDirective t m) := by
  by_cases same : n = m
  · subst same
    rw [considerDirective_of_none (by rw [stands.slot_eq]; exact none)]
    exact stands
  · obtain ⟨axis, slot⟩ := considerDirective_other (s := t) m same
    refine ⟨axis.trans stands.axis, slot.trans stands.slot_eq, ?_⟩
    obtain same | order := considerDirective_order (s := t) (n := m)
    · rw [same]
      exact stands.order
    · rw [order]
      exact fun mem => stands.order (List.mem_of_mem_filter mem)

theorem StandsConcluded.releases {t : State} (stands : StandsConcluded n record slot t) (ms : List Axis) :
    StandsConcluded n record slot (ms.foldl releaseStep t) := by
  refine foldl_property _ releaseStep (fun u m stands => ?_) ms t stands
  unfold releaseStep
  split
  · exact stands.considerDirective none m
  · exact stands

theorem StandsConcluded.engages {t : State} (stands : StandsConcluded n record slot t) (ms : List Axis) :
    StandsConcluded n record slot (ms.foldl engageStep t) := by
  refine foldl_property _ engageStep (fun u m stands => ?_) ms t stands
  unfold engageStep
  split
  · exact stands.considerDirective none m
  · exact stands

end

end Sys2Proof.Machine

/-!
PROOF. APPLY_RELEASE and APPLY_ENGAGE (R106, R107): the pass that applies the directive of the axis named, and the reaction as
a whole.
-/
namespace Sys2Proof.Machine
open Sys2Proof

/-! ## A release applied -/

section
variable {s : State} {n : Axis} {d : Directive}

/-- The directive slot of an axis whose release was applied (R87, R103, R106). -/
def releasedSlot (s : State) (n : Axis) : DirectiveSlot :=
  { pending := none, outcome := .applied, outcomeFrame := s.clock.f, engaged := (s.slot n).engaged
    released := some s.clock.f }

/-- The directive slot of an axis whose engage was applied (R86, R103, R107). -/
def engagedSlot (s : State) (n : Axis) : DirectiveSlot :=
  { pending := none, outcome := .applied, outcomeFrame := s.clock.f, engaged := some s.clock.f
    released := (s.slot n).released }

/-- The record of an axis that has joined a group (R86). -/
def AxisRecord.joined (a : AxisRecord) (g : Group) : AxisRecord :=
  { a with group := some g, sync := .acquiring, lockCount := 0, slipCount := 0, speedError := 0 }

theorem applyRelease_concluded (grouped : (s.axis n).group.isSome = true) :
    StandsConcluded n ((s.axis n).uncouple .uncoupled) (releasedSlot s n) (applyRelease s n) := by
  refine ⟨?_, ?_, ?_⟩
  · rw [applyRelease_axis, if_pos ⟨rfl, grouped⟩]
  · rw [applyRelease_slot, if_pos rfl, releaseAxis_slot, if_pos ⟨rfl, grouped⟩]
    rfl
  · rw [applyRelease_order]
    simp

theorem applyEngage_concluded (g : Group) :
    StandsConcluded n ((s.axis n).joined g) (engagedSlot s n) (applyEngage s n g) := by
  refine ⟨?_, ?_, ?_⟩
  · rw [applyEngage_axis, if_pos rfl]
    rfl
  · rw [applyEngage_slot, if_pos rfl]
    rfl
  · rw [applyEngage_order]
    simp

theorem guardsAllow_release_untouched {t : State} (same : Untouched n s t) :
    guardsAllow t n .release = guardsAllow s n .release := by
  unfold guardsAllow earliestFrame
  rw [same.slot, same.guards, same.clock]

/-- A release that passes its checks is applied in the first pass, and stays applied (R106). -/
theorem directivesReaction_release (pending : (s.slot n).pending = some d) (later : d.placed < s.clock.f)
    (release : d.action = .release) (accepted : placementRefusal s n d.action = none)
    (allowed : guardsAllow s n d.action = true) (grouped : (s.axis n).group.isSome = true)
    (coupled : (s.axis n).sync ≠ .uncoupled) :
    StandsConcluded n ((s.axis n).uncouple .uncoupled) (releasedSlot s n) (directivesReaction s) := by
  obtain ⟨before, after, split⟩ := List.append_of_mem (mem_axes n)
  have absent : n ∉ before := by
    have each : (before ++ n :: after).Nodup := split ▸ (by decide : axes.Nodup)
    exact fun mem => (List.nodup_append.mp each).2.2 n mem n (by simp) rfl
  have same := foldl_releaseStep_untouched before absent s
  have releases : axes.foldl releaseStep s = after.foldl releaseStep (releaseStep (before.foldl releaseStep s) n) := by
    rw [split, List.foldl_append, List.foldl_cons]
  generalize before.foldl releaseStep s = t at same releases
  have pending : (t.slot n).pending = some d := by rw [same.slot, pending]
  have later : d.placed < t.clock.f := by rw [same.clock]; exact later
  have accepted : placementRefusal t n d.action = none := (same.placementRefusal _).trans accepted
  have changes : redundant t n d.action = false := by
    rw [same.redundant, release]
    exact decide_eq_false coupled
  have allowed : guardsAllow t n d.action = true := by
    rw [release, guardsAllow_release_untouched same, ← release]
    exact allowed
  have applied : releaseStep t n = applyRelease t n :=
    (releaseStep_of_release (pendingRelease_iff.mpr ⟨d, pending, release⟩)).trans
      (considerDirective_release pending later accepted changes allowed release)
  have concluded := applyRelease_concluded (s := t) (n := n) (by rw [same.axis]; exact grouped)
  have slot : releasedSlot t n = releasedSlot s n := by
    unfold releasedSlot
    rw [same.clock, same.slot]
  rw [same.axis, slot, ← applied] at concluded
  rw [directivesReaction_eq, releases]
  exact (concluded.releases rfl after).engages rfl _

end

/-! ## An engage applied -/

/-- What the pass over the releases leaves of an axis with a pending engage: the axis itself, every engage history, of the
other directives none but those it has not concluded, and its place in the order. -/
structure ReleasesTaken (n : Axis) (s t : State) : Prop where
  untouched : Untouched n s t
  engaged : ∀ m, (t.slot m).engaged = (s.slot m).engaged
  pending : ∀ m, (t.slot m).pending = none ∨ (t.slot m).pending = (s.slot m).pending
  order : ∃ p : Axis → Bool, p n = true ∧ t.directives.order = s.directives.order.filter p

section
variable {s t : State} {n : Axis} {d : Directive} {g : Group}

theorem ReleasesTaken.refl (n : Axis) (s : State) : ReleasesTaken n s s :=
  ⟨.refl n s, fun _ => rfl, fun _ => .inr rfl, fun _ => true, rfl, by simp⟩

/-- The consideration of a pending release writes no engage history and places no directive. -/
theorem considerDirective_release_slot {m : Axis} (release : pendingRelease s m = true) (k : Axis) :
    ((considerDirective s m).slot k).engaged = (s.slot k).engaged ∧
      (((considerDirective s m).slot k).pending = none ∨
        ((considerDirective s m).slot k).pending = (s.slot k).pending) := by
  obtain ⟨x, pending, release⟩ := pendingRelease_iff.mp release
  obtain same | ⟨y, isPending, ⟨o, same⟩ | ⟨-, same⟩ | ⟨g, engage, -⟩⟩ := considerDirective_cases s m
  · rw [same]
    exact ⟨rfl, .inr rfl⟩
  · rw [same, concludeDirective_slot]
    split
    case isTrue here => subst here; exact ⟨rfl, .inl rfl⟩
    case isFalse => exact ⟨rfl, .inr rfl⟩
  · rw [same, applyRelease_slot, releaseAxis_slot]
    split
    case isTrue here =>
      subst here
      refine ⟨?_, .inl rfl⟩
      dsimp only
      split <;> rfl
    case isFalse => exact ⟨rfl, .inr rfl⟩
  · rw [pending] at isPending
    obtain rfl := Option.some.inj isPending
    rw [release] at engage
    exact absurd engage nofun

theorem releaseStep_taken (taken : ReleasesTaken n s t) (engage : ¬ pendingRelease s n = true) (m : Axis) :
    ReleasesTaken n s (releaseStep t m) := by
  obtain ⟨untouched, engaged, pending, p, here, order⟩ := taken
  by_cases release : pendingRelease t m = true
  case neg =>
    rw [releaseStep_of_not release]
    exact ⟨untouched, engaged, pending, p, here, order⟩
  case pos =>
    have other : n ≠ m := by
      rintro rfl
      rw [pendingRelease_eq, untouched.slot, ← pendingRelease_eq] at release
      exact engage release
    have slots := considerDirective_release_slot release
    rw [releaseStep_of_release release]
    refine ⟨untouched.trans (considerDirective_untouched m other), fun k => (slots k).1.trans (engaged k), fun k => ?_, ?_⟩
    · obtain gone | same := (slots k).2
      · exact .inl gone
      · rw [same]
        exact pending k
    · obtain same | removed := considerDirective_order (s := t) (n := m)
      · rw [same]
        exact ⟨p, here, order⟩
      · refine ⟨fun k => decide (k ≠ m) && p k, by simp [other, here], ?_⟩
        rw [removed, order, List.filter_filter]

theorem foldl_releaseStep_taken (engage : ¬ pendingRelease s n = true) (ms : List Axis) :
    ReleasesTaken n s (ms.foldl releaseStep s) :=
  foldl_property (ReleasesTaken n s) releaseStep (fun _ m taken => releaseStep_taken taken engage m) ms s (.refl n s)

theorem foldl_engageStep_of_none (ms : List Axis) (none : ∀ m ∈ ms, ¬ pendingEngage s m = true) :
    ms.foldl engageStep s = s := by
  induction ms with
  | nil => rfl
  | cons m ms ih =>
    rw [List.foldl_cons, engageStep_of_not (none m (by simp))]
    exact ih fun k mem => none k (by simp [mem])

theorem guardsAllow_taken (taken : ReleasesTaken n s t) (action : Action) :
    guardsAllow t n action = guardsAllow s n action := by
  unfold guardsAllow earliestFrame
  simp only [taken.engaged, taken.untouched.slot, taken.untouched.guards, taken.untouched.clock]

/-- An engage that passes its checks, with releases alone before it in the order, is applied in the second pass (R107). -/
theorem directivesReaction_engage (pending : (s.slot n).pending = some d) (later : d.placed < s.clock.f)
    (engage : d.action = .engage g) (accepted : placementRefusal s n d.action = none)
    (allowed : guardsAllow s n d.action = true) (alone : (s.axis n).group = none)
    (released : (s.axis n).driveStatus ≠ some .brakeSet) {before after : List Axis}
    (order : s.directives.order = before ++ n :: after)
    (first : ∀ m ∈ before, ∀ x, (s.slot m).pending = some x → x.action = .release) :
    StandsConcluded n ((s.axis n).joined g) (engagedSlot s n) (directivesReaction s) := by
  have notRelease : ¬ pendingRelease s n = true := by
    rw [pendingRelease_eq, pending]
    simp [engage]
  have taken := foldl_releaseStep_taken notRelease axes
  rw [directivesReaction_eq]
  generalize axes.foldl releaseStep s = t at taken
  obtain ⟨p, here, filtered⟩ := taken.order
  have same := taken.untouched
  have quiet : ∀ m ∈ before.filter p, ¬ pendingEngage t m = true := fun m mem isEngage => by
    obtain ⟨x, stands, h, engages⟩ := pendingEngage_iff.mp isEngage
    obtain gone | kept := taken.pending m
    · simp [gone] at stands
    · have isRelease := first m (List.mem_of_mem_filter mem) x (kept ▸ stands)
      rw [isRelease] at engages
      exact absurd engages nofun
  have pending : (t.slot n).pending = some d := by rw [same.slot, pending]
  have later : d.placed < t.clock.f := by rw [same.clock]; exact later
  have accepted : placementRefusal t n d.action = none := (same.placementRefusal _).trans accepted
  have changes : redundant t n d.action = false := by
    rw [same.redundant, engage]
    simp [redundant, alone]
  have allowed : guardsAllow t n d.action = true := (guardsAllow_taken taken _).trans allowed
  have applied : engageStep t n = applyEngage t n g :=
    (engageStep_of_engage (pendingEngage_iff.mpr ⟨d, pending, g, engage⟩)).trans
      ((considerDirective_engage pending later accepted changes allowed engage).trans
        (if_neg (by rw [same.axis]; exact released)))
  have concluded := applyEngage_concluded (s := t) (n := n) g
  have slot : engagedSlot t n = engagedSlot s n := by
    unfold engagedSlot
    rw [same.clock, same.slot]
  rw [same.axis, slot, ← applied] at concluded
  rw [filtered, order, List.filter_append, List.filter_cons_of_pos here, List.foldl_append,
    foldl_engageStep_of_none _ quiet, List.foldl_cons]
  exact concluded.engages rfl _

end

end Sys2Proof.Machine

/-!
PROOF. The application of directives as a whole (R96, R105 to R108), with its rows.
-/
namespace Sys2Proof.Machine
open Sys2Proof

section
variable {s : State} {n : Axis} {d : Directive}

theorem appliesNow_iff (pending : (s.slot n).pending = some d) :
    appliesNow s n = true ↔
      ((directivesReaction s).slot n).pending = none ∧ ((directivesReaction s).slot n).outcome = .applied ∧
        ((directivesReaction s).slot n).outcomeFrame = s.clock.f := by
  unfold appliesNow
  simp only [pending, Option.isSome_some, Bool.true_and, Bool.and_eq_true, decide_eq_true_eq, Option.isNone_iff_eq_none]
  exact and_comm

theorem directivesReaction_guards : (directivesReaction s).directives.guards = s.directives.guards := by
  have step {pick : State → Axis → Bool} (t : State) (m : Axis) :
      (if pick t m = true then considerDirective t m else t).directives.guards = t.directives.guards := by
    split
    · exact considerDirective_guards
    · rfl
  rw [directivesReaction_eq, foldl_keeps (fun t => t.directives.guards) engageStep step,
    foldl_keeps (fun t => t.directives.guards) releaseStep step]

/-- The state in which the Directive Unit takes its owed reaction. -/
def directivesTurn (s : State) : State :=
  { s with boundary := { s.boundary with owed := s.boundary.owed.filter (· ≠ .directives) } }

theorem takeOwed_directives (owed : Reaction.directives ∈ s.boundary.owed) :
    takeOwed s .directives = directivesReaction (directivesTurn s) := takeOwed_of_mem owed

/-- The row of the pending directive's own kind, and the other row. -/
theorem exec_applyRow (owed : Reaction.directives ∈ s.boundary.owed) {picked : Bool} {row : Instr}
    (isRow : exec row s = .next (takeEvent .directives (picked && appliesNow s n) s)) :
    exec row s = .next (if picked = true ∧ appliesNow s n = true then takeOwed s .directives else s) := by
  rw [isRow]
  split
  case isTrue event =>
    rw [takeEvent_of_happens owed (by simp [event]), takeReaction_of_inner (by decide) (by decide)]
  case isFalse none =>
    rw [takeEvent_of_not (.inr (by simpa using none))]

theorem exec_rows_release (owed : Reaction.directives ∈ s.boundary.owed) (pending : (s.slot n).pending = some d)
    (release : d.action = .release) :
    exec (.applyRelease n) s = .next (if appliesNow s n = true then takeOwed s .directives else s) ∧
      exec (.applyEngage n) s = .next s := by
  have own : pendingRelease s n = true := pendingRelease_iff.mpr ⟨d, pending, release⟩
  have other : pendingEngage s n = false := by simp [pendingEngage, own]
  have released := exec_applyRow owed (row := .applyRelease n) (picked := pendingRelease s n) rfl
  have engaged := exec_applyRow owed (row := .applyEngage n) (picked := pendingEngage s n) rfl
  simp only [own, true_and] at released
  simp only [other, Bool.false_eq_true, false_and, if_false] at engaged
  exact ⟨released, engaged⟩

theorem exec_rows_engage (owed : Reaction.directives ∈ s.boundary.owed) (pending : (s.slot n).pending = some d) {g : Group}
    (engage : d.action = .engage g) :
    exec (.applyEngage n) s = .next (if appliesNow s n = true then takeOwed s .directives else s) ∧
      exec (.applyRelease n) s = .next s := by
  have own : pendingEngage s n = true := pendingEngage_iff.mpr ⟨d, pending, g, engage⟩
  have other : pendingRelease s n = false := by simp [pendingRelease_eq, pending, engage]
  have engaged := exec_applyRow owed (row := .applyEngage n) (picked := pendingEngage s n) rfl
  have released := exec_applyRow owed (row := .applyRelease n) (picked := pendingRelease s n) rfl
  simp only [own, true_and] at engaged
  simp only [other, Bool.false_eq_true, false_and, if_false] at released
  exact ⟨engaged, released⟩

/-- A directive concluded with its slot APPLIED at F counts as applied. -/
theorem StandsConcluded.applied {t : State} {record : AxisRecord} {slot : DirectiveSlot} {f : Nat}
    (stands : StandsConcluded n record slot t) (empty : slot.pending = none) (outcome : slot.outcome = .applied)
    (frame : slot.outcomeFrame = f) :
    (t.slot n).pending = none ∧ (t.slot n).outcome = .applied ∧ (t.slot n).outcomeFrame = f := by
  rw [stands.slot_eq]
  exact ⟨empty, outcome, frame⟩

/-- What the Directive Unit's owed reaction touches. -/
structure DirectivesFrame (s t : State) : Prop where
  fixed : t =
    { s with
      boundary := t.boundary, axes := t.axes, directives := t.directives, record := t.record }
  owed : t.boundary.owed = s.boundary.owed.filter (· ≠ .directives)
  guards : t.directives.guards = s.directives.guards

theorem directivesReaction_frame (s : State) : DirectivesFrame s (directivesReaction (directivesTurn s)) := by
  obtain ⟨pending, clock, boundary, queue, schedule, holds, sync, loss, road, links, linkSettings, latches, safety, level, trace,
    receivers, held, drawn⟩ := directivesReaction_keeps (directivesTurn s)
  refine ⟨State.ext_fields pending clock rfl queue schedule holds rfl sync rfl loss road links linkSettings latches safety level
    rfl trace receivers held drawn, ?_, directivesReaction_guards⟩
  rw [boundary]
  rfl

end

/-- Settles O51: the placement checks, one consideration, the two passes, the two rows. -/
theorem directivesApplied : Obligations.DirectivesApplied := by
  refine ⟨placementRefusal_eq, fun s n => ?consider, fun s => ?passes, fun s n d owed pending => ?rows⟩
  case consider =>
    intro concluded left joined
    have left_eq : releaseAxis s n = left := releaseAxis_eq s n
    have released : applyRelease s n = concluded left .applied := by
      rw [← left_eq]
      rfl
    refine ⟨considerDirective_of_none, fun d pending => ⟨considerDirective_early pending, fun later =>
      ⟨fun o refused => considerDirective_refused pending later refused, fun accepted => ?_⟩⟩⟩
    intro changesNothing
    have redundant_iff : redundant s n d.action = true ↔ changesNothing := by
      unfold redundant changesNothing
      cases d.action <;> exact decide_eq_true_iff
    refine ⟨fun idle => considerDirective_redundant pending later accepted (redundant_iff.mpr idle), fun changes => ?_⟩
    have changes : redundant s n d.action = false := Bool.eq_false_iff.mpr (mt redundant_iff.mp changes)
    refine ⟨fun e earliest guarded => ?_, fun allows => ?_⟩
    · refine considerDirective_guarded pending later accepted changes (Bool.eq_false_iff.mpr fun allowed => ?_)
      exact absurd ((guardsAllow_iff s n d.action).mp allowed e earliest) (Nat.not_le.mpr guarded)
    · have allowed := (guardsAllow_iff s n d.action).mpr allows
      exact ⟨fun release => (considerDirective_release pending later accepted changes allowed release).trans released,
        fun g engage => considerDirective_engage pending later accepted changes allowed engage⟩
  case passes =>
    have first : (fun (t : State) (n : Axis) =>
        if (t.slot n).pending.map (fun d => d.action) = some .release then considerDirective t n else t) = releaseStep := by
      funext t n
      unfold releaseStep
      simp only [pendingRelease_eq, decide_eq_true_eq]
    intro releases
    have releases_eq : releases = axes.foldl releaseStep s := by
      simp only [releases, first]
      rfl
    change directivesReaction s = _
    rw [directivesReaction_eq, releases_eq]
    congr 1
    funext t n
    unfold engageStep pendingEngage
    rw [pendingRelease_eq]
    cases pending : (t.slot n).pending with
    | none => rfl
    | some d =>
      obtain ⟨action, placed⟩ := d
      cases action <;> rfl
  case rows =>
    intro applied row other
    have applied_iff : appliesNow s n = true ↔ applied := appliesNow_iff pending
    have rows : exec row s = .next (if appliesNow s n = true then takeOwed s .directives else s) ∧
        exec other s = .next s := by
      cases action : d.action with
      | release => simpa only [row, other, action] using exec_rows_release owed pending action
      | engage g => simpa only [row, other, action] using exec_rows_engage owed pending action
    obtain ⟨taken, quiet⟩ := rows
    have takes (isApplied : applied) : exec row s = .next (takeOwed s .directives) :=
      taken.trans (congrArg _ (if_pos (applied_iff.mpr isApplied)))
    refine ⟨takes, fun notApplied => taken.trans (congrArg _ (if_neg (mt applied_iff.mp notApplied))), quiet,
      fun later accepted allowed => ?_⟩
    intro frame
    have turn := takeOwed_directives owed
    have framed : frame (takeOwed s .directives) := by
      obtain ⟨fixed, owed, guards⟩ := directivesReaction_frame s
      rw [turn]
      exact ⟨fixed, owed, guards⟩
    refine ⟨fun release grouped coupled => ?released, fun g before after engage alone free order first => ?engaged⟩
    case released =>
      have concludes (t : State) := directivesReaction_release (s := t) (n := n) (d := d)
      have here := concludes s pending later release accepted allowed grouped coupled
      have there := concludes (directivesTurn s) pending later release accepted allowed grouped coupled
      rw [← turn] at there
      have ownRow : row = .applyRelease n := by simp only [row, release]
      exact ⟨_, ownRow ▸ takes (here.applied rfl rfl rfl), framed, there.axis, there.slot_eq, there.order⟩
    case engaged =>
      have concludes (t : State) := directivesReaction_engage (s := t) (n := n) (d := d) (g := g)
      have here := concludes s pending later engage accepted allowed alone free order first
      have there := concludes (directivesTurn s) pending later engage accepted allowed alone free order first
      rw [← turn] at there
      have ownRow : row = .applyEngage n := by simp only [row, engage]
      exact ⟨_, ownRow ▸ takes (here.applied rfl rfl rfl), framed, there.axis, there.slot_eq, there.order⟩

end Sys2Proof.Machine

/-!
PROOF. The receivers' events (R191, R192, R194): a byte, a tear, an answer's end, an idle line; and the message taken byte by
byte, which does what its own row does.
-/
namespace Sys2Proof.Machine
open Sys2Proof

/-! ## A receiver's events -/

theorem setReceiver_same (s : State) (p : Port) : s.setReceiver p (s.receiver p) = s := by
  cases p with
  | supervisory => rfl
  | observer => rfl
  | drive n => exact congrArg (fun drive => { s with receivers := { s.receivers with drive := drive } }) (four_set_get _ n)

theorem setReceiver_of_eq {s : State} {p : Port} {r : Receiver} (same : s.receiver p = r) : s.setReceiver p r = s := by
  rw [← same, setReceiver_same]

section
variable {s u : State} {p : Port} {b : Byte} (settled : settle s = u)
include settled

/-- While the part is held in reset nothing happens on a port (R13). -/
theorem receiverEvent_held (held : u.heldInReset = true) (f : State → State) : receiverEvent f s = u := by
  rw [receiverEvent_eq settled, if_pos held]

variable (free : u.heldInReset = false)
include free

theorem receiverEvent_free (f : State → State) : receiverEvent f s = f u := by
  rw [receiverEvent_eq settled, if_neg (by simp [free])]

theorem exec_byteArrival : exec (.byteArrival p b) s = .next (u.setReceiver p (afterByte (u.receiver p) b)) :=
  congrArg Host.Outcome.next (receiverEvent_free settled free _)

theorem exec_tear : exec (.tear p) s = .next (u.setReceiver p (afterGap (u.receiver p))) :=
  congrArg Host.Outcome.next (receiverEvent_free settled free _)

theorem exec_answerSent : exec (.answerSent p) s = .next (u.setReceiver p (afterAnswer (u.receiver p))) :=
  congrArg Host.Outcome.next (receiverEvent_free settled free _)

theorem exec_lineIdle : exec (.lineIdle p) s = .next (lineFallsIdle p u) :=
  congrArg Host.Outcome.next (receiverEvent_free settled free _)

end

/-! ## A complete message -/

theorem messageComplete_iff (bytes : List Byte) :
    messageComplete bytes = true ↔
      ∃ (address kind len : Byte) (rest : List Byte),
        bytes = address :: kind :: len :: rest ∧ rest.length = len.toNat + 2 := by
  match bytes with
  | [] => simp [messageComplete]
  | [_] => simp [messageComplete]
  | [_, _] => simp [messageComplete]
  | address :: kind :: len :: rest =>
    simp only [messageComplete, List.length_cons, decide_eq_true_eq, List.cons.injEq]
    constructor
    · intro length
      exact ⟨address, kind, len, rest, ⟨rfl, rfl, rfl, rfl⟩, by omega⟩
    · rintro ⟨-, -, len, rest, ⟨rfl, rfl, rfl, rfl⟩, length⟩
      omega

section
variable {v : State} {p : Port} {address kind c1 c0 : Byte} {payload : List Byte}

/-- The bytes of a message: header, payload and check word (R191). -/
theorem takeBytes_message (short : payload.length ≤ 240) :
    takeBytes p ([address, kind, byteOf payload.length] ++ payload ++ [c1, c0]) v =
      if (crc ([address, kind, byteOf payload.length] ++ payload)).toNat = 256 * c1.toNat + c0.toNat then
        judgeMessage p address kind payload v
      else v := by
  have length : (byteOf payload.length).toNat = payload.length := by
    rw [toNat_byteOf]
    omega
  simp only [takeBytes, List.cons_append, List.nil_append, length, List.take_left', List.drop_left', fieldOf_two]

end

end Sys2Proof.Machine

/-!
PROOF. A message taken byte by byte is judged by its address and its kind (R192, R195), and then does what the row of the same
request does (log 8).
-/
namespace Sys2Proof.Machine
open Sys2Proof

/-! ## The judging of a message -/

section
variable {v : State} {p : Port} {address kind : Byte} {payload : List Byte}

theorem judgeMessage_of_ignored (ignored : portTakes p address = false) : judgeMessage p address kind payload v = v := by
  cases p with
  | drive n => simp [judgeMessage, ignored]
  | supervisory =>
    have none : senderOf .supervisory address = none := Option.isSome_eq_false_iff.mp ignored |> Option.isNone_iff_eq_none.mp
    simp [judgeMessage, none]
  | observer =>
    have none : senderOf .observer address = none := Option.isSome_eq_false_iff.mp ignored |> Option.isNone_iff_eq_none.mp
    simp [judgeMessage, none]

theorem portOf_of_senderOf {src : Sender} (sender : senderOf p address = some src) : portOf src = p := by
  cases p with
  | drive n => cases sender
  | supervisory =>
    simp only [senderOf] at sender
    split at sender <;> cases sender
    rfl
  | observer =>
    simp only [senderOf] at sender
    split at sender
    · cases sender
      rfl
    · split at sender <;> cases sender
      rfl

theorem judgeMessage_station {src : Sender} (sender : senderOf p address = some src) :
    judgeMessage p address kind payload v = serve p address kind (stationServed src kind payload) v := by
  cases p with
  | drive n => cases sender
  | supervisory => simp only [judgeMessage, sender]
  | observer => simp only [judgeMessage, sender]

theorem judgeMessage_drive {n : Axis} (takes : portTakes (.drive n) address = true) :
    judgeMessage (.drive n) address kind payload v = serve (.drive n) address kind (driveServed n kind payload) v :=
  if_pos takes

theorem serve_congr {h g : State → Served} (same : h v = g v) : serve p address kind h v = serve p address kind g v := by
  simp only [serve, same]

theorem judgeMessage_of_unknown (takes : portTakes p address = true) (unknown : linkCarries p kind = false) :
    judgeMessage p address kind payload v = serve p address kind unknownServed v := by
  have station {src : Sender} (sender : senderOf p address = some src) :
      judgeMessage p address kind payload v = serve p address kind unknownServed v := by
    rw [judgeMessage_station sender]
    refine serve_congr ?_
    unfold stationServed
    rw [portOf_of_senderOf sender, unknown]
    rfl
  cases p with
  | drive n =>
    rw [judgeMessage_drive takes]
    refine serve_congr ?_
    have neither : ¬ (kind.toNat = 0x70 ∨ kind.toNat = 0x71) := of_decide_eq_false unknown
    rw [not_or] at neither
    unfold driveServed
    rw [if_neg neither.1, if_neg neither.2]
  | supervisory =>
    obtain ⟨src, sender⟩ := Option.isSome_iff_exists.mp takes
    exact station sender
  | observer =>
    obtain ⟨src, sender⟩ := Option.isSome_iff_exists.mp takes
    exact station sender

theorem portTakes_driveAddress (n dest : Axis) : portTakes (.drive n) (driveAddress dest) = true := by
  have small := dest.isLt
  have value : (driveAddress dest).toNat = 0x30 + dest.val := by
    unfold driveAddress
    rw [toNat_byteOf]
    omega
  refine decide_eq_true ?_
  rw [value]
  omega

theorem senderOf_addressOf (src : Sender) : senderOf (portOf src) (addressOf src) = some src := by
  cases src <;> rfl

theorem linkCarries_portOf (src : Sender) : linkCarries (portOf src) kind = decide (kind.toNat ∈ stationKinds) := by
  cases src <;> rfl

end

/-! ## The rows on a port that is ready -/

section
variable {v : State} {p : Port} {address kind : Byte} {payload : List Byte} (owed : v.boundary.owed = [])
  (ready : portReady v p = true)
include owed ready

theorem takeMessage_settled (handled : State → State) : takeMessage p handled v = handled v := by
  have settled := settle_of_owed_nil v owed
  rw [takeMessage_ready p handled v (by rw [settled]; exact ready), settled]

theorem exec_addressIgnored_settled (ignored : portTakes p address = false) :
    exec (.addressIgnored p address) v = .next (judgeMessage p address kind payload v) := by
  have row : exec (.addressIgnored p address) v =
      .next (takeMessage p (fun t => if portTakes p address then t else id t) v) := rfl
  rw [row, takeMessage_settled owed ready, judgeMessage_of_ignored ignored, ignored]
  rfl

theorem exec_unknownRequest_settled (takes : portTakes p address = true) (unknown : linkCarries p kind = false) :
    exec (.unknownRequest p address kind) v = .next (judgeMessage p address kind payload v) := by
  have row : exec (.unknownRequest p address kind) v =
      .next (takeMessage p
        (fun t => if portTakes p address && !linkCarries p kind then serve p address kind unknownServed t else t) v) := rfl
  rw [row, takeMessage_settled owed ready, judgeMessage_of_unknown takes unknown, takes, unknown]
  rfl

end

section
variable {v : State} {payload : List Byte} (owed : v.boundary.owed = [])
include owed

theorem exec_hello_settled {n dest : Axis} (ready : portReady v (.drive n) = true) :
    exec (.hello n dest payload) v = .next (judgeMessage (.drive n) (driveAddress dest) 0x70#8 payload v) := by
  have row : exec (.hello n dest payload) v =
      .next (takeMessage (.drive n) (serve (.drive n) (driveAddress dest) 0x70#8 (helloRequest n payload)) v) := rfl
  rw [row, takeMessage_settled owed ready, judgeMessage_drive (portTakes_driveAddress n dest)]
  rfl

theorem exec_poll_settled {n dest : Axis} (ready : portReady v (.drive n) = true) :
    exec (.poll n dest payload) v = .next (judgeMessage (.drive n) (driveAddress dest) 0x71#8 payload v) := by
  have row : exec (.poll n dest payload) v =
      .next (takeMessage (.drive n) (serve (.drive n) (driveAddress dest) 0x71#8 (pollRequest n payload)) v) := rfl
  rw [row, takeMessage_settled owed ready, judgeMessage_drive (portTakes_driveAddress n dest)]
  rfl

/-- A station request's row does what its message does, where the payload is read to the row's contents. -/
theorem exec_station_settled {src : Sender} {kind : Byte} {c : Instr} {h : State → Served}
    (ready : portReady v (portOf src) = true) (found : stationCommand c = some (src, kind, h))
    (read : stationRequest src kind payload = h) (carried : kind.toNat ∈ stationKinds) :
    exec c v = .next (judgeMessage (portOf src) (addressOf src) kind payload v) := by
  have served : stationServed src kind payload v = permitted src kind h v := by
    unfold stationServed
    rw [linkCarries_portOf, decide_eq_true carried, ← read]
    rfl
  rw [exec_stationCommand found, judgeMessage_station (senderOf_addressOf src), serve_congr served]
  exact congrArg Host.Outcome.next (takeMessage_settled owed ready _)

end

end Sys2Proof.Machine

/-!
PROOF. The receivers' events, assembled.
-/
namespace Sys2Proof.Machine
open Sys2Proof

/-- The rows of the station requests, each read from a message's payload bytes (R195; log 8). -/
def stationRows (src : Sender) (payload : List Byte) : List (Byte × Instr) :=
  [(0x01#8, .setClock src (Config.setClockContents payload)), (0x02#8, .clockStart src (noParameters payload)),
    (0x03#8, .clockHalt src (noParameters payload)), (0x08#8, .reset src (noParameters payload)),
    (0x20#8, .append src payload), (0x21#8, .loadBlock src payload), (0x22#8, .flush src (noParameters payload)),
    (0x24#8, .startRun src (noParameters payload)), (0x25#8, .abortRun src (noParameters payload)),
    (0x26#8, .closeRun src (noParameters payload)), (0x27#8, .setRun src (Config.setRunContents payload)),
    (0x30#8, .hold src (Config.holdContents payload)), (0x31#8, .release src (noParameters payload)),
    (0x32#8, .releaseHolder src (Config.releaseHolderContents payload)),
    (0x40#8, .setAxis src (Config.setAxisContents payload)), (0x41#8, .setSync src (Config.setSyncContents payload)),
    (0x42#8, .readAxis src (Config.readAxisContents payload)), (0x44#8, .couple src (Config.coupleContents payload)),
    (0x45#8, .setGuards src (Config.setGuardsContents payload)), (0x48#8, .setBands src (Config.setBandsContents payload)),
    (0x49#8, .setLoss src (Config.setLossContents payload)), (0x4C#8, .loadBank src (Config.loadBankContents payload)),
    (0x4D#8, .selectBank src (Config.selectBankContents payload)), (0x50#8, .setLinks src (Config.setLinksContents payload)),
    (0x54#8, .readFault src (Config.readFaultContents payload)), (0x55#8, .clearFault src (Config.clearFaultContents payload)),
    (0x58#8, .ackSafeStop src (noParameters payload)), (0x5C#8, .readRecord src (Config.readRecordContents payload)),
    (0x60#8, .status src (noParameters payload)), (0x61#8, .snapshot src (noParameters payload)),
    (0x62#8, .preview src (noParameters payload))]

/-- The rows are of the kinds the station links carry, in their order. -/
theorem stationRows_kinds (src : Sender) (payload : List Byte) :
    ((stationRows src payload).map fun row => row.1.toNat) = stationKinds := rfl

/-- Each row is the station command whose request its kind and payload are read to. -/
theorem stationRows_read {src : Sender} {payload : List Byte} {row : Byte × Instr} (mem : row ∈ stationRows src payload) :
    ∃ h, stationCommand row.2 = some (src, row.1, h) ∧ stationRequest src row.1 payload = h := by
  simp only [stationRows, List.mem_cons, List.not_mem_nil, or_false] at mem
  rcases mem with rfl | rfl | rfl | rfl | rfl | rfl | rfl | rfl | rfl | rfl | rfl | rfl | rfl | rfl | rfl | rfl | rfl | rfl |
    rfl | rfl | rfl | rfl | rfl | rfl | rfl | rfl | rfl | rfl | rfl | rfl | rfl <;>
    exact ⟨_, rfl, rfl⟩

theorem stationRows_carried {src : Sender} {payload : List Byte} {row : Byte × Instr} (mem : row ∈ stationRows src payload) :
    row.1.toNat ∈ stationKinds :=
  stationRows_kinds src payload ▸ List.mem_map_of_mem (f := fun row : Byte × Instr => row.1.toNat) mem

section
variable {u : State} {p : Port}

theorem portReady_idle (free : u.heldInReset = false) : portReady (u.setReceiver p .idle) p = true := by
  simp [portReady, free]

theorem owed_setReceiver (owed : u.boundary.owed = []) (r : Receiver) : (u.setReceiver p r).boundary.owed = [] := by
  simp [owed]

theorem lineFallsIdle_receiving {bytes : List Byte} (receiving : u.receiver p = .receiving bytes) :
    lineFallsIdle p u =
      if messageComplete bytes = true then takeBytes p bytes (u.setReceiver p .idle) else u.setReceiver p .idle := by
  simp only [lineFallsIdle, receiving]

end

/-- Settles O44: each event by the receiver's state; a complete message, by its check, then by the row of its request. -/
theorem receiverEvents : Obligations.ReceiverEvents := by
  intro s p b
  have owed := settle_owed s
  generalize settled : settle s = w at owed
  intro u becomes complete
  have byte (free : u.heldInReset = false) := exec_byteArrival (p := p) (b := b) settled free
  have tear (free : u.heldInReset = false) := exec_tear (p := p) settled free
  have sent (free : u.heldInReset = false) := exec_answerSent (p := p) settled free
  have idle (free : u.heldInReset = false) := exec_lineIdle (p := p) settled free
  have stays {r : Receiver} (same : u.receiver p = r) : w.setReceiver p r = u := setReceiver_of_eq same
  refine ⟨fun held => ?held, fun free =>
    ⟨fun at_ => ?idle, fun at_ => ?waiting, fun a at_ => ?answering, fun bytes at_ => ⟨?sent, fun whole => ?whole, fun part => ?part⟩⟩⟩
  case held =>
    have nothing (f : State → State) : Host.Outcome.next (receiverEvent f s) = (.next u : Host.Outcome State Fault Refusal) :=
      congrArg Host.Outcome.next (receiverEvent_held settled held f)
    exact ⟨nothing _, nothing _, nothing _, nothing _⟩
  case idle =>
    have falls : lineFallsIdle p u = u := by simp only [lineFallsIdle, at_]
    have byte := byte free
    have tear := tear free
    have sent := sent free
    rw [show w.receiver p = .idle from at_] at byte tear sent
    exact ⟨byte, tear.trans (congrArg _ (stays at_)), sent.trans (congrArg _ (stays at_)),
      (idle free).trans (congrArg _ falls)⟩
  case waiting =>
    have falls : lineFallsIdle p u = u.setReceiver p .idle := by simp only [lineFallsIdle, at_]
    have byte := byte free
    have tear := tear free
    have sent := sent free
    rw [show w.receiver p = .waiting from at_] at byte tear sent
    exact ⟨byte.trans (congrArg _ (stays at_)), tear.trans (congrArg _ (stays at_)), sent.trans (congrArg _ (stays at_)),
      (idle free).trans (congrArg _ falls)⟩
  case answering =>
    have falls : lineFallsIdle p u = u := by simp only [lineFallsIdle, at_]
    have byte := byte free
    have tear := tear free
    have sent := sent free
    rw [show w.receiver p = .answering a from at_] at byte tear sent
    exact ⟨byte.trans (congrArg _ (stays at_)), tear.trans (congrArg _ (stays at_)), sent,
      (idle free).trans (congrArg _ falls)⟩
  case sent =>
    have sent := sent free
    rw [show w.receiver p = .receiving bytes from at_] at sent
    exact sent.trans (congrArg _ (stays at_))
  case part =>
    have incomplete : messageComplete bytes = false := Bool.eq_false_iff.mpr (mt (messageComplete_iff bytes).mp part)
    have falls : lineFallsIdle p u = u.setReceiver p .idle := by rw [lineFallsIdle_receiving at_, incomplete]; rfl
    have byte := byte free
    have tear := tear free
    rw [show w.receiver p = .receiving bytes from at_] at byte tear
    simp only [afterByte, incomplete, Bool.false_eq_true, if_false] at byte
    simp only [afterGap, incomplete, Bool.false_eq_true, if_false] at tear
    exact ⟨tear, (idle free).trans (congrArg _ falls), byte⟩
  case whole =>
    have isComplete : messageComplete bytes = true := (messageComplete_iff bytes).mpr whole
    have falls : lineFallsIdle p u = takeBytes p bytes (u.setReceiver p .idle) := by
      rw [lineFallsIdle_receiving at_, if_pos isComplete]
    have byte := byte free
    have tear := tear free
    rw [show w.receiver p = .receiving bytes from at_] at byte tear
    simp only [afterByte, isComplete, if_true] at byte
    simp only [afterGap, isComplete, if_true] at tear
    refine ⟨byte, tear.trans (congrArg _ (stays at_)), fun address kind payload c1 c0 message short => ?_⟩
    intro covered
    have taken := takeBytes_message (v := u.setReceiver p .idle) (p := p) (address := address) (kind := kind) (c1 := c1) (c0 := c0)
      short
    rw [← message, ← falls] at taken
    refine ⟨fun bad => (idle free).trans (congrArg _ (taken.trans (if_neg bad))), fun good => ?_⟩
    intro row
    have judged : exec (.lineIdle p) s = .next (judgeMessage p address kind payload (u.setReceiver p .idle)) :=
      (idle free).trans (congrArg _ (taken.trans (if_pos good)))
    have settledNow := owed_setReceiver (p := p) owed .idle
    have ready := portReady_idle (p := p) free
    have row_of {c : Instr}
        (own : exec c (u.setReceiver p .idle) = .next (judgeMessage p address kind payload (u.setReceiver p .idle))) : row c :=
      judged.trans own.symm
    refine ⟨fun ignored => row_of (exec_addressIgnored_settled settledNow ready ignored),
      fun takes unknown => row_of (exec_unknownRequest_settled settledNow ready takes unknown), fun n dest drive own => ?drive,
      fun src station own request mem isKind => ?station⟩
    case drive =>
      subst drive own
      exact ⟨fun isKind => row_of (by subst isKind; exact exec_hello_settled settledNow ready),
        fun isKind => row_of (by subst isKind; exact exec_poll_settled settledNow ready)⟩
    case station =>
      subst station own isKind
      obtain ⟨h, found, read⟩ := stationRows_read (src := src) (payload := payload) mem
      exact row_of (exec_station_settled settledNow ready found read (stationRows_carried mem))

end Sys2Proof.Machine

/-!
PROOF. Segment records (R15, R17, R24, R200): the layout walked, the count of a block, the checks in their order.
-/
namespace Sys2Proof.Machine
open Sys2Proof

/-! ## The walk -/

section
variable {bytes : List Byte} {k : Nat}

theorem walkRecords_zero_cons (b : Byte) : walkRecords 0 (b :: bytes) = none := rfl

theorem walkRecords_of_none (short : walkRecord bytes = none) : walkRecords (k + 1) bytes = none := by
  simp only [walkRecords, short]

theorem walkRecords_of_some {r : RawRecord} {rest : List Byte} (walked : walkRecord bytes = some (r, rest)) :
    walkRecords (k + 1) bytes = (walkRecords k rest).map fun rs => r :: rs := by
  simp only [walkRecords, walked]

end

/-! ## The checks -/

section
variable {t : Trial} {r : RawRecord}

/-- The segment of a record, in the bits of R200's layout (R15). -/
theorem segmentOf_eq (r : RawRecord) :
    segmentOf r =
      { number := r.number
        kind :=
          if r.form % 4 = 1 then .ramp r.target r.duration else if r.form % 4 = 2 then .stand r.duration else .closing
        phase := r.phase.map fun p =>
          { number := p / 16 % 16
            lines :=
              { pm0 := decide (p % 2 = 1), pm1 := decide (p / 2 % 2 = 1), pm2 := decide (p / 4 % 2 = 1)
                pm3 := decide (p / 8 % 2 = 1) } }
        directives := r.directives.map fun d =>
          { axis := Fin.ofNat 4 d
            action := if d / 4 % 4 = 2 then .release else if d / 16 % 4 = 1 then .engage .one else .engage .two }
        autoRelease := decide (r.form / 64 % 2 = 1)
        check := BitVec.ofNat 16 r.check } := rfl

/-- The trial values after a record that passes its checks: it carries the expected number and one of the three kinds. -/
theorem Trial.after_of_passed (passes : recordRefusal t r = none) :
    t.after (segmentOf r) =
      { expected := if r.number = 65535 then 1 else r.number + 1
        tail := if r.form % 4 = 1 then r.target else 0
        closed := decide (r.form % 4 = 3) } := by
  obtain ⟨wellFormed, -, -, number⟩ := recordRefusal_none passes
  have someKind : r.form % 4 ≠ 0 := ((recordWellFormed_iff r).mp wellFormed).1
  have tail : (segmentOf r).endSpeed = if r.form % 4 = 1 then (r.target : Int) else 0 := by
    rw [segmentOf_eq]
    unfold Segment.endSpeed
    split_ifs <;> rfl
  have closing : (segmentOf r).kind = .closing ↔ r.form % 4 = 3 := by
    rw [segmentOf_eq]
    dsimp only
    split_ifs
    · simp
      omega
    · simp
      omega
    · simp
      omega
  unfold Trial.after numberAfter
  rw [tail, ← number]
  simp only [closing]

theorem checkRecords_refused {code : Code} (refusal : recordRefusal t r = some code) (position : Nat)
    (rest : List RawRecord) : checkRecords t position (r :: rest) = .error (code, position) := by
  simp only [checkRecords, refusal]

variable (passes : recordRefusal t r = none) {position : Nat} {rest : List RawRecord}
include passes

theorem checkRecords_passed {segments : List Segment} {last : Trial}
    (others : checkRecords (t.after (segmentOf r)) (position + 1) rest = .ok (segments, last)) :
    checkRecords t position (r :: rest) = .ok (segmentOf r :: segments, last) := by
  simp only [checkRecords, passes, others]

theorem checkRecords_failed {e : Code × Nat}
    (others : checkRecords (t.after (segmentOf r)) (position + 1) rest = .error e) :
    checkRecords t position (r :: rest) = .error e := by
  simp only [checkRecords, passes, others]

end

/-- Settles O14: the layout, the walk's equations, then one record's checks before the rest of the block. -/
theorem recordChecks : Obligations.RecordChecks := by
  refine ⟨fun bytes r rest => ?layout, fun bytes k => ?walk, fun t position r rest => ?checks⟩
  case layout =>
    intro kind number form target duration phase directives
    rw [walkRecord_eq_some]
    have fields : number ++ form ++ r.fields = number ++ form ++ target ++ duration ++ phase ++ directives := by
      simp only [List.append_assoc]
      simp only [RawRecord.fields, List.append_assoc]
      rfl
    rw [← fields]
  case walk =>
    exact ⟨⟨rfl, fun b => rfl⟩, walkRecords_of_none, fun r rest => walkRecords_of_some, rfl, fun count => rfl⟩
  case checks =>
    intro kind wellFormed inRange failure segment
    have refusal : recordRefusal t r = failure := by
      unfold recordRefusal
      simp only [failure, wellFormed, inRange, recordWellFormed_iff, recordInRange_iff, decide_eq_false_iff_not]
      rfl
    clear_value failure
    subst refusal
    refine ⟨rfl, ?_⟩
    cases outcome : recordRefusal t r with
    | some code => exact checkRecords_refused outcome position rest
    | none =>
      dsimp only [kind]
      rw [← Trial.after_of_passed outcome]
      cases others : checkRecords (t.after (segmentOf r)) (position + 1) rest with
      | ok result => exact checkRecords_passed outcome others
      | error e => exact checkRecords_failed outcome others

end Sys2Proof.Machine
